-- ==== Sys2Proof/Word.lean ====
section
/-! DEFINITION. The word types of the Dorchel 816 and the index types of its tables. -/

namespace Sys2Proof

/-- A word of the control window (R148). -/
abbrev Word := BitVec 32

/-- A timestamp: a count of house ticks, wrapping at 2^32 (00, Time). -/
abbrev Tick := BitVec 32

/-- A word of the flash image (R163). -/
abbrev Word16 := BitVec 16

/-- A 10-bit picture sample (R21). -/
abbrev Sample := BitVec 10

/-- A feed port FP0 to FP7 and its feed record. -/
abbrev FeedId := Fin 8

/-- An output port 0 to 7. -/
abbrev PortId := Fin 8

/-- A route record 0 to 15 (R53). -/
abbrev RouteId := Fin 16

/-- A slot 0 to 127 (R38). -/
abbrev SlotId := Fin 128

/-- A blend profile 0 to 31 (R116). -/
abbrev ProfileId := Fin 32

/-- A preset 0 to 15 (R167). -/
abbrev PresetId := Fin 16

end Sys2Proof
end

