-- ==== Sys2Proof/Syntax.lean ====
section
/-! DEFINITION. The commands of the Dorchel 816: one constructor of `Instr` for each row of
spec/opcode_table.json, with the operands the block is handed from outside. -/

namespace Sys2Proof

/-- Timeline Generator A or B. -/
inductive TimelineId where
  | a | b
  deriving DecidableEq, Repr

/-- A timecode value (R2): hours, minutes, seconds, frame number, drop flag and pair flag. -/
structure Timecode where
  hours   : Nat
  minutes : Nat
  seconds : Nat
  frame   : Nat
  drop    : Bool
  pair    : Bool
  deriving DecidableEq, Repr

/-- The key of an ancillary packet or of a map entry: family and kind (R19, R53). -/
structure Key where
  family : BitVec 8
  kind   : BitVec 8
  deriving DecidableEq, Repr

/-- An ancillary packet: its key and its payload bytes, whose number is its length (R19). -/
structure Packet where
  key     : Key
  payload : List (BitVec 8)
  deriving DecidableEq, Repr

/-- One sample column of a line: its luma and its colour-difference sample (R40). -/
structure Pel where
  luma   : Sample
  chroma : Sample
  deriving DecidableEq, Repr

/-- Which output an OUTPUT_LINE belongs to: an output port or the monitor port. -/
inductive OutputId where
  | port (p : PortId)
  | monitor
  deriving DecidableEq, Repr

/-- The kinds of the ring commands (12, Kinds, lengths and largest replies). -/
inductive CmdKind where
  | routeOpen | routeAlter | routeClose | routeRead | routeHold | routeRelease | routeTrim | presetOpen
  | feedSet | feedRead | trackSet | profileWrite | profileRead | timelineSet | timelineRead | portSet | portMute
  | referenceSet | monitorSet | checkSet | eventsTake | notifySet | deviceRead
  deriving DecidableEq, Repr

/-- The commands. A ring command (`routeOpen` to `deviceRead`) is the taking, R152, of the record that stands at
the command read index of the command ring; its operands are the words of the ring. -/
inductive Instr where
  /-- POWER_ON_RESET (R165, R168), with the level of the AUTOSTART pin. -/
  | powerOnReset (autostart : Bool)
  /-- CONTROL_RESET (R156). -/
  | controlReset
  /-- RING_RESET (R155). -/
  | ringReset
  /-- COMMAND_WRITE_INDEX_WRITE (R148, R151), with the value written. -/
  | commandWriteIndexWrite (value : Word)
  /-- REPLY_READ_INDEX_WRITE (R148, R151), with the value written. -/
  | replyReadIndexWrite (value : Word)
  /-- CONTROL_WINDOW_WRITE (R171): a write of the word at `address` of the window 0x000 to 0x7FF. -/
  | controlWindowWrite (address : BitVec 11) (value : Word)
  | routeOpen
  | routeAlter
  | routeClose
  | routeRead
  | routeHold
  | routeRelease
  | routeTrim
  | presetOpen
  | feedSet
  | feedRead
  | trackSet
  | profileWrite
  | profileRead
  /-- TIMELINE_SET (R12), with the tick at which the command is taken. -/
  | timelineSet (tick : Tick)
  | timelineRead
  | portSet
  | portMute
  | referenceSet
  | monitorSet
  | checkSet
  | eventsTake
  | notifySet
  | deviceRead
  /-- REFERENCE_PULSE (R5), with the pulse's tick. -/
  | referencePulse (tick : Tick)
  /-- REFERENCE_ABSENCE (R6). -/
  | referenceAbsence
  /-- OUTPUT_BOUNDARY (R11) of a timeline. -/
  | outputBoundary (timeline : TimelineId)
  /-- OUTPUT_LINE (R106) of an output. -/
  | outputLine (output : OutputId)
  /-- PICTURE_START (R18, R23) with the start's tick and the signal's field identification: `bottom` is read for an
  interlaced standard only. -/
  | pictureStart (feed : FeedId) (tick : Tick) (bottom : Bool)
  /-- ACTIVE_LINE (R40) with the line's sample columns in order. -/
  | activeLine (feed : FeedId) (pels : List Pel)
  /-- ANCILLARY_PACKET (R19). -/
  | ancillaryPacket (feed : FeedId) (packet : Packet)
  /-- PICTURE_TIMECODE (R20) with the value received. -/
  | pictureTimecode (feed : FeedId) (timecode : Timecode)
  /-- PICTURE_END (R27). -/
  | pictureEnd (feed : FeedId)
  /-- SILENCE_EXPIRY (R26). -/
  | silenceExpiry (feed : FeedId)
  /-- FLASH_READ (R163): the words the flash device returned, or none when it did not complete the transaction. -/
  | flashRead (words : Option (List Word16))
  /-- LOAD_END (R170), with the tick at which the load ends. -/
  | loadEnd (tick : Tick)
  deriving DecidableEq, Repr

end Sys2Proof
end

