-- ==== Sys2Proof/Decode.lean ====
section
/-! DEFINITION. Decoding of the opcode table's words. The table gives bits for none of its 41 rows (98, the reader's
counts: no row with fixed bits, no row with fields), so no word spells a command. The decoding of the ring's command
records (R171, R172) stands in Machine/Operands.lean. -/

namespace Sys2Proof

/-- The command that a word spells by the table's bits: none, for the table gives bits for no row. -/
def decodeTableWord (_nbits _w : Nat) : Option Instr :=
  none

end Sys2Proof
end

