-- ==== Sys2Proof/Machine/State.lean ====
section
/-! DEFINITION. The state of the Dorchel 816, all of it plain data, and the state right after power-on reset.
The tables of the part are vectors, so their lengths are facts of the types. -/

namespace Sys2Proof.Machine

/-- Why a step can stop with a fault: never. The part's own FAULT is a state of the Command Unit (R154). -/
inductive Fault
  deriving DecidableEq, Repr

/-- Why a command can be without a meaning. -/
inductive Refusal where
  /-- Raised by `exec` for a command that has no meaning yet: none has it. Safe: the model stops. -/
  | notModelled (mnemonic : String)
  deriving DecidableEq, Repr

/-! ## Standards and pictures -/

/-- The ten picture standards (R1). Code 0, no standard, is the absence of one. -/
inductive Standard where
  | s625i | s525i | h50i | h5994i | h25p | h2997p | h2398p | h24p | h50p | h5994p
  deriving DecidableEq, Repr

/-- The two families of standards (R1). -/
inductive Family where
  | sd | hd
  deriving DecidableEq, Repr

/-- The parity of a picture (00, Pictures). -/
inductive Parity where
  | top | bottom | frame
  deriving DecidableEq, Repr

/-! ## The Reference Unit -/

/-- The reference families (R4). -/
inductive RefFamily where
  | fifty | fiftyNine94
  deriving DecidableEq, Repr

/-- The reference modes (R4). -/
inductive RefMode where
  | auto | manualExternal | manualInternal
  deriving DecidableEq, Repr

/-- The tick sources (R4). -/
inductive TickSource where
  | internal | locked | holdover
  deriving DecidableEq, Repr

/-- The Reference Unit (R4). The absence timer runs while the last pulse is present and expires 3P after it, so it
is a view of `lastPulse`. `steers` is the model's own: how many
good pulses in LOCKED, or into it, have changed the tick's frequency (R5, R8, log 6). -/
structure Reference where
  family    : RefFamily
  mode      : RefMode
  source    : TickSource
  lastPulse : Option Tick
  goodRun   : Nat
  badPulses : Nat
  steers    : Nat
  deriving DecidableEq, Repr

/-! ## The timelines -/

/-- The states of a timeline (R10). -/
inductive TimelineState where
  | stopped | running
  deriving DecidableEq, Repr

/-- A Timeline Generator (R10). -/
structure Timeline where
  state        : TimelineState
  standard     : Standard
  nextBoundary : Option Tick
  counter      : BitVec 32
  nextParity   : Parity
  nextTimecode : Timecode
  currentTimecode : Option Timecode
  deriving DecidableEq, Repr

/-! ## The feeds -/

/-- How a feed's period is tracked (R22). -/
inductive FeedProfile where
  | track | nominal
  deriving DecidableEq, Repr

/-- The states of a feed (R22). -/
inductive FeedState where
  | unconfigured | empty | acquire | locked | lost | mismatch
  deriving DecidableEq, Repr

/-- A feed record (R22). The silence timer runs while the last start is present and expires 2N after it, so it is a
view of `lastStart`. `period` is the estimated period E in 1/256 tick; `events` has the bits of 12, Value codes. -/
structure Feed where
  standard    : Option Standard
  profile     : FeedProfile
  trackSlot   : Fin 5
  freeze      : Bool
  threshold   : BitVec 16
  state       : FeedState
  period      : Nat
  lastStart   : Option Tick
  inFlight    : Bool
  measurement : Option Tick
  goodRun     : Nat
  rejectRun   : Nat
  badRun      : Nat
  routeCount  : Nat
  nextSeq     : BitVec 32
  writing     : Option SlotId
  pictures    : BitVec 32
  runts       : Nat
  rejects     : Nat
  damaged     : Nat
  overruns    : Nat
  events      : BitVec 4
  deriving DecidableEq, Repr

/-- To what the port's framing belongs (R18, R19, R23): to no start, to a start the tracker accepted, or to a runt. -/
inductive Framing where
  | none | accepted | runt
  deriving DecidableEq, Repr

/-- The comparator's grid of a picture: 32 rows of 32 luma samples (R21). -/
abbrev Grid := List (List Sample)

/-- What a feed port holds of the picture it is framing (R18 to R21), and the comparator's reference list. -/
structure FeedPort where
  framing   : Framing
  parity    : Parity
  lineCount : Nat
  rows      : Grid
  timecode  : Option Timecode
  packets   : List Packet
  refs      : List Grid
  deriving DecidableEq, Repr

/-! ## The slot table -/

/-- The states of a slot (R38). -/
inductive SlotState where
  | free | writing | ready
  deriving DecidableEq, Repr

/-- A slot record (R38). -/
structure Slot where
  state    : SlotState
  seq      : BitVec 32
  standard : Option Standard
  parity   : Parity
  timecode : Option Timecode
  packets  : List Packet
  hold     : Nat
  pin      : Nat
  deriving DecidableEq, Repr

/-- The Slot Table (R38). -/
abbrev SlotTable := Vector Slot 128

/-! ## Profiles and pictures in progress -/

/-- A blend profile (R116). The points of a curve are c[0] to c[16]. -/
inductive Profile where
  | empty
  | curve (points : List Nat)
  | snap
  deriving DecidableEq, Repr

/-- The slots of an output pair (R85): the one at position A alone, both, or the one at position B alone. -/
inductive PairSlots where
  | onlyA (a : SlotId)
  | both (a b : SlotId)
  | onlyB (b : SlotId)
  deriving DecidableEq, Repr

/-- A route's output pair with its weight, its shaped weight and the latched curve (R53, R104). -/
structure OutputPair where
  slots  : PairSlots
  weight : Nat
  shaped : Nat
  curve  : Profile
  deriving DecidableEq, Repr

/-- The kinds of a picture in progress (R104). -/
inductive PictureKind where
  | live | repeated
  deriving DecidableEq, Repr

/-- An output picture in progress (R104). `nextLine` is the line to be produced next (R106); the monitor's pictures
have no latched curve (R115). -/
structure Picture where
  kind     : PictureKind
  slots    : PairSlots
  weight   : Nat
  shaped   : Nat
  curve    : Option Profile
  standard : Standard
  parity   : Parity
  clipped  : Bool
  nextLine : Nat
  deriving DecidableEq, Repr

/-! ## The routes -/

/-- The states of a route record (R53). -/
inductive RouteState where
  | free | priming | running | held | starved | lapsed | closing
  deriving DecidableEq, Repr

/-- The cadence modes (R53). -/
inductive CadenceMode where
  | off | auto
  deriving DecidableEq, Repr

/-- The timecode modes (R53). -/
inductive TimecodeMode where
  | off | source | house
  deriving DecidableEq, Repr

/-- What is done with a packet no map entry names (R127). -/
inductive UnmappedAction where
  | drop | passOnce | passEvery
  deriving DecidableEq, Repr

/-- The repeat policies of a map entry (R127). -/
inductive RepeatPolicy where
  | once | every
  deriving DecidableEq, Repr

/-- The actions of a map entry (R127). -/
inductive MapAction where
  | pass (policy : RepeatPolicy)
  | retag (policy : RepeatPolicy) (newKey : Key)
  | drop
  deriving DecidableEq, Repr

/-- A map entry (R127). -/
structure MapEntry where
  key    : Key
  action : MapAction
  deriving DecidableEq, Repr

/-- The setting fields of a route that ROUTE_ALTER may change (R53, R72). -/
structure RouteSetting where
  profile     : ProfileId
  trim        : Nat
  cadence     : CadenceMode
  timecode    : TimecodeMode
  holdLimit   : Nat
  retireLimit : Option Nat
  mapList     : List MapEntry
  unmapped    : UnmappedAction
  deriving DecidableEq, Repr

/-- An entry of a route's window (R53, R78). -/
structure WindowEntry where
  slot  : SlotId
  seq   : BitVec 32
  admitNumber : BitVec 32
  deriving DecidableEq, Repr

/-- The last output snapshot (R88). -/
structure Snapshot where
  seqA     : BitVec 32
  seqB     : BitVec 32
  weight   : Nat
  dominant : BitVec 32
  deriving DecidableEq, Repr

/-- The three cadence patterns (R93). -/
inductive Pattern where
  | f23 | p23 | p22
  deriving DecidableEq, Repr

/-- What a LOCKED cadence part holds (R92). -/
structure CadenceLock where
  pattern  : Pattern
  position : Nat
  deriving DecidableEq, Repr

/-- The cadence part (R92): LOCKED while `lock` is present and in SEARCH while it is absent. -/
structure CadencePart where
  history : List Bool
  lock    : Option CadenceLock
  deriving DecidableEq, Repr

/-- The states of a checker part (R137). -/
inductive CheckerState where
  | hunt | sync
  deriving DecidableEq, Repr

/-- The checker part (R137). In the result window `true` is ok and `false` is error. -/
structure CheckerPart where
  state    : CheckerState
  run      : Nat
  results  : List Bool
  previous : Option (BitVec 32)
  deriving DecidableEq, Repr

/-- A route's counters (R54). -/
structure RouteCounters where
  outputs          : BitVec 32
  late             : Nat
  early            : Nat
  clips            : Nat
  cadenceBreaks    : Nat
  continuityErrors : Nat
  deriving DecidableEq, Repr

/-- A route record (R53) with its output picture in progress (R104). -/
structure Route where
  generation   : Fin 16
  state        : RouteState
  feed         : FeedId
  port         : PortId
  outStandard  : Standard
  setting      : RouteSetting
  window       : List WindowEntry
  nextAdmit    : BitVec 32
  phase        : Int
  error        : Int
  settled      : Bool
  pair         : Option OutputPair
  frozen       : Bool
  snapshot     : Option Snapshot
  lastDominant : Option (BitVec 32)
  lapse        : Nat
  counters     : RouteCounters
  cadence      : Option CadencePart
  checker      : Option CheckerPart
  events       : BitVec 8
  picture      : Option Picture
  deriving DecidableEq, Repr

/-- The Route Table (R53). -/
abbrev RouteTable := Vector Route 16

/-! ## The output ports and the monitor -/

/-- What a port carries in a boundary interval (R120). -/
inductive Content where
  | black | live | hold
  deriving DecidableEq, Repr

/-- An output port record (R120). `standard` is that of the boundary interval in progress: its timeline's at the
latest boundary the port took, in which its black lines are sent (R113, R15, log 29). `lineOut` is the model's view of
the port's pins: the line sent last (R106). -/
structure Port where
  timeline : TimelineId
  standard : Standard
  mute     : Bool
  content  : Content
  timecode : Option Timecode
  packets  : List Packet
  lineOut  : List Pel
  deriving DecidableEq, Repr

/-- The views of the monitor port (R143). -/
inductive MonitorView where
  | off
  | port (port : PortId)
  | feed (feed : FeedId) (timeline : TimelineId)
  deriving DecidableEq, Repr

/-- What the monitor port carries in a boundary interval (R143). -/
inductive MonitorContent where
  | black | copy | picture
  deriving DecidableEq, Repr

/-- The monitor record (R143) with its output picture in progress (R104, R115) and its pins. `standard` is that of
the boundary interval in progress: its timeline's at the latest boundary the monitor took, in which its black lines are
sent (R113, R143, log 29). -/
structure Monitor where
  view     : MonitorView
  standard : Standard
  latest   : Option SlotId
  pair     : Option SlotId
  content  : MonitorContent
  packets  : List Packet
  timecode : Option Timecode
  picture  : Option Picture
  lineOut  : List Pel
  deriving DecidableEq, Repr

/-! ## The control window and the Command Unit -/

/-- The states of the Command Unit (R150). `takeDue` is the model's own: the instant between an evaluation that
finds a whole command with room for its reply (R151, case 5) and the taking of that command (log 1). -/
inductive CuState where
  | loading | idle | waitData | waitReply | fault | takeDue
  deriving DecidableEq, Repr

/-- The causes of a ring fault (R154). -/
inductive FaultCause where
  | unknownKind | badLength
  deriving DecidableEq, Repr

/-- The fault word when there is a fault (R154). -/
structure FaultWord where
  cause  : FaultCause
  index  : Fin 1024
  kind   : BitVec 8
  length : BitVec 8
  deriving DecidableEq, Repr

/-- The rings, their indices, the CU state and the fault word (R148, R150). -/
structure CommandUnit where
  state      : CuState
  cmdRing    : Vector Word 1024
  replyRing  : Vector Word 512
  cmdWrite   : Fin 1024
  cmdRead    : Fin 1024
  replyWrite : Fin 512
  replyRead  : Fin 512
  fault      : Option FaultWord
  deriving DecidableEq, Repr

/-- The device scope: its pending set, the retired set, the masks, the global enable, the summary word and the
notification line (R158, R160, R161). Sets and masks have the bits of 12, Value codes. -/
structure Device where
  events     : BitVec 5
  retired    : BitVec 16
  routeMask  : BitVec 8
  feedMask   : BitVec 4
  deviceMask : BitVec 5
  enable     : Bool
  summary    : Word
  line       : Bool
  deriving DecidableEq, Repr

/-- The reply statuses (R157). -/
inductive Status where
  | ok | stale | noRoute | range | feedUnconfigured | feedInUse | portTaken | portInUse | family | profileEmpty
  | curveInvalid | mapDuplicate | fixed | timelineInUse | manualLatched
  deriving DecidableEq, Repr

/-! ## The Start-up Loader and the Preset Table -/

/-- A map entry as it stands in a command or in the flash, not yet checked (R58, R167). -/
structure RawMapEntry where
  family    : Nat
  kind      : Nat
  action    : Nat
  policy    : Nat
  newFamily : Nat
  newKind   : Nat
  deriving DecidableEq, Repr

/-- A whole open setting as it stands in a ROUTE_OPEN or in a preset, not yet checked (R58, R167). `entries` are the
map entries the command's words or the preset hold. -/
structure OpenRequest where
  feed        : Nat
  port        : Nat
  profile     : Nat
  trim        : Nat
  cadence     : Nat
  timecode    : Nat
  unmapped    : Nat
  holdLimit   : Nat
  retireLimit : Nat
  mapCount    : Nat
  entries     : List RawMapEntry
  deriving DecidableEq, Repr

/-- A filled preset (R167). -/
structure Preset where
  request    : OpenRequest
  startOrder : Nat
  deriving DecidableEq, Repr

/-- The modules of the flash image in their order (R163). -/
inductive ModuleId where
  | house | track | profile | feed | preset
  deriving DecidableEq, Repr

/-- Why an image is ignored (R164). -/
inductive LoadCause where
  | read | signature | checksum
  deriving DecidableEq, Repr

/-- Where a load stands: the transaction that is outstanding (R163), the reading's end (R164), or the parts of an
accepted image still to be done: its modules (R165), then the openings of its presets (R168, log 15). -/
inductive LoadStage where
  /-- No load is running. -/
  | none
  /-- The header is being read. -/
  | header
  /-- The length word of a module is being read. -/
  | length (m : ModuleId) (pointer : Nat)
  /-- The body of a module is being read. -/
  | body (m : ModuleId) (count : Nat)
  /-- Every read completed. -/
  | complete
  /-- The image is accepted; the modules still to be applied. -/
  | applying (left : List ModuleId)
  /-- The modules are applied; the presets still to be opened. -/
  | opening (left : List PresetId)
  /-- The image is ignored: a failed read, a wrong signature or a wrong sum. -/
  | stopped (cause : LoadCause)
  deriving DecidableEq, Repr

/-- The outcome of a load (R170). -/
inductive LoadOutcome where
  | none | done | fail
  deriving DecidableEq, Repr

/-- The loader result (R170). -/
structure LoaderResult where
  outcome        : LoadOutcome
  cause          : Option LoadCause
  version        : Option Word16
  modules        : List ModuleId
  profileApplied : Nat
  profileRefused : Nat
  feedApplied    : Nat
  feedRefused    : Nat
  autostart      : Bool
  opened         : Nat
  refusals       : List (PresetId × Status)
  deriving DecidableEq, Repr

/-- The Start-up Loader: the kind of the load, the reading so far, the AUTOSTART sample and the loader result
(R163 to R170). -/
structure Loader where
  powerOn   : Bool
  stage     : LoadStage
  header    : List Word16
  bodies    : List (ModuleId × List Word16)
  autostart : Bool
  result    : LoaderResult
  deriving DecidableEq, Repr

/-! ## The state -/

/-- The whole state of the part, and the queue of the commands that wait. -/
structure State where
  reference : Reference
  timelineA : Timeline
  timelineB : Timeline
  trackK    : Vector Nat 5
  feeds     : Vector Feed 8
  feedPorts : Vector FeedPort 8
  slots     : SlotTable
  dram      : List Host.Cell
  routes    : RouteTable
  profiles  : Vector Profile 32
  ports     : Vector Port 8
  monitor   : Monitor
  cu        : CommandUnit
  device    : Device
  loader    : Loader
  presets   : Vector (Option Preset) 16
  pending   : List Instr
  deriving DecidableEq, Repr

/-! ## Power-on values -/

/-- The Reference Unit at power-on (R4). -/
def Reference.reset : Reference where
  family := .fifty
  mode := .auto
  source := .internal
  lastPulse := none
  goodRun := 0
  badPulses := 0
  steers := 0

/-- Timecode 00:00:00:00 with pair flag 0 and a drop flag. -/
def zeroTimecode (drop : Bool) : Timecode where
  hours := 0
  minutes := 0
  seconds := 0
  frame := 0
  drop := drop
  pair := false

/-- A timeline at power-on (R10): the two defaults are interlaced standards, so the next parity is TOP. -/
def Timeline.reset (standard : Standard) (drop : Bool) : Timeline where
  state := .stopped
  standard := standard
  nextBoundary := none
  counter := 0
  nextParity := .top
  nextTimecode := zeroTimecode drop
  currentTimecode := none

/-- The tracking constants after power-on or control reset (R33). -/
def trackReset : Vector Nat 5 := #v[8, 64, 256, 1024, 4096]

/-- A feed record after power-on or control reset (R22). -/
def Feed.reset : Feed where
  standard := none
  profile := .track
  trackSlot := 2
  freeze := false
  threshold := 2048
  state := .unconfigured
  period := 0
  lastStart := none
  inFlight := false
  measurement := none
  goodRun := 0
  rejectRun := 0
  badRun := 0
  routeCount := 0
  nextSeq := 0
  writing := none
  pictures := 0
  runts := 0
  rejects := 0
  damaged := 0
  overruns := 0
  events := 0

/-- A feed port after power-on or control reset: it frames no picture (DESIGN CHOICE, log 17) and its reference list
is empty (R21). -/
def FeedPort.reset : FeedPort where
  framing := .none
  parity := .frame
  lineCount := 0
  rows := []
  timecode := none
  packets := []
  refs := []

/-- A slot after power-on or control reset (R39). -/
def Slot.reset : Slot where
  state := .free
  seq := 0
  standard := none
  parity := .frame
  timecode := none
  packets := []
  hold := 0
  pin := 0

/-- The counters of a route at its open (R54). -/
def RouteCounters.zero : RouteCounters where
  outputs := 0
  late := 0
  early := 0
  clips := 0
  cadenceBreaks := 0
  continuityErrors := 0

/-- A FREE record with its generation (R55). Its other fields are not read (R53): DESIGN CHOICE, log 24. -/
def Route.free (generation : Fin 16) : Route where
  generation := generation
  state := .free
  feed := 0
  port := 0
  outStandard := .h50i
  setting := { profile := 0, trim := 0, cadence := .off, timecode := .off, holdLimit := 0, retireLimit := none,
               mapList := [], unmapped := .drop }
  window := []
  nextAdmit := 0
  phase := 0
  error := 0
  settled := false
  pair := none
  frozen := false
  snapshot := none
  lastDominant := none
  lapse := 0
  counters := RouteCounters.zero
  cadence := none
  checker := none
  events := 0
  picture := none

/-- Profile 0, LINEAR (R116). -/
def linearPoints : List Nat := [0, 4, 8, 12, 16, 20, 24, 28, 32, 36, 40, 44, 48, 52, 56, 60, 64]

/-- Profile 1, STEEP (R116). -/
def steepPoints : List Nat := [0, 0, 0, 0, 0, 0, 4, 16, 32, 48, 60, 64, 64, 64, 64, 64, 64]

/-- Profile 2, EASED (R116). -/
def easedPoints : List Nat := [0, 1, 3, 6, 10, 15, 21, 27, 32, 37, 43, 49, 54, 58, 61, 63, 64]

/-- The Profile Table after power-on or control reset (R116): profile 3 is NEAREST, 4 to 31 are EMPTY. -/
def profilesReset : Vector Profile 32 :=
  #v[Profile.curve linearPoints, Profile.curve steepPoints, Profile.curve easedPoints, Profile.snap]
    ++ Vector.replicate 28 Profile.empty

/-- An output port on a timeline at power-on (R120). Its pins carry no line yet (DESIGN CHOICE, log 11); the standard
of its lines before the first boundary is the caller's (DESIGN CHOICE, log 29). -/
def Port.reset (timeline : TimelineId) (standard : Standard) : Port where
  timeline := timeline
  standard := standard
  mute := false
  content := .black
  timecode := none
  packets := []
  lineOut := []

/-- The output ports at power-on: 0 to 3 on A and 4 to 7 on B (R14), each in its timeline's default standard
(R10, log 29). -/
def portsReset : Vector Port 8 :=
  Vector.replicate 4 (Port.reset .a .h50i) ++ Vector.replicate 4 (Port.reset .b .h5994i)

/-- The monitor record after power-on or control reset (R143), with the standard of its lines before the next boundary
(DESIGN CHOICE, log 29). -/
def Monitor.reset (standard : Standard) : Monitor where
  view := .off
  standard := standard
  latest := none
  pair := none
  content := .black
  packets := []
  timecode := none
  picture := none
  lineOut := []

/-- The Command Unit at power-on (R148, R150). The ring words are a DESIGN CHOICE (log 9). -/
def CommandUnit.reset : CommandUnit where
  state := .loading
  cmdRing := Vector.replicate 1024 0
  replyRing := Vector.replicate 512 0
  cmdWrite := 0
  cmdRead := 0
  replyWrite := 0
  replyRead := 0
  fault := none

/-- The device scope after power-on or control reset (R156, R158, R160): empty sets, all kinds in the masks, the global
enable off, the summary word 0 and the line deasserted. -/
def Device.reset : Device where
  events := 0
  retired := 0
  routeMask := 0xFF
  feedMask := 0xF
  deviceMask := 0x1F
  enable := false
  summary := 0
  line := false

/-- The loader result cleared to no outcome (R170). -/
def LoaderResult.cleared : LoaderResult where
  outcome := .none
  cause := none
  version := none
  modules := []
  profileApplied := 0
  profileRefused := 0
  feedApplied := 0
  feedRefused := 0
  autostart := false
  opened := 0
  refusals := []

/-- The loader at the start of a load (R163, R165, R170), with the AUTOSTART sample it keeps (R168). -/
def Loader.start (powerOn autostart : Bool) : Loader where
  powerOn := powerOn
  stage := .header
  header := []
  bodies := []
  autostart := autostart
  result := LoaderResult.cleared

/-- The part right after power-on reset, its power-on load begun: every block at its power-on values. The level of the
AUTOSTART pin (low) and the unwritten DRAM are DESIGN CHOICES (logs 7 and 10). -/
def State.reset : State where
  reference := Reference.reset
  timelineA := Timeline.reset .h50i false
  timelineB := Timeline.reset .h5994i true
  trackK := trackReset
  feeds := Vector.replicate 8 Feed.reset
  feedPorts := Vector.replicate 8 FeedPort.reset
  slots := Vector.replicate 128 Slot.reset
  dram := []
  routes := Vector.replicate 16 (Route.free 0)
  profiles := profilesReset
  ports := portsReset
  monitor := Monitor.reset .h50i
  cu := CommandUnit.reset
  device := Device.reset
  loader := Loader.start true false
  presets := Vector.replicate 16 none
  pending := []

end Sys2Proof.Machine
end

