-- ==== Sys2Proof/Machine/Flags.lean ====
section
/-! DEFINITION. Pending event sets, saturating counters, the summary word and the notification line
(R37, R54, R76, R158, R161). -/

namespace Sys2Proof.Machine

/-- One more on a 16-bit saturating counter (00, Numbers and arithmetic). -/
def sat16 (n : Nat) : Nat :=
  min 65535 (n + 1)

/-- The kinds of a route's events (R76), numbered as their bits (12, Value codes). -/
inductive RouteEvent where
  | late | early | cadenceLock | cadenceBreak | starved | lapsed | clip | continuity
  deriving DecidableEq, Repr

/-- The kinds of a feed's events (R37). -/
inductive FeedEvent where
  | state | overrun | damaged | runt
  deriving DecidableEq, Repr

/-- The kinds of the device's events (R158). -/
inductive DeviceEvent where
  | refChange | cmdFault | loadDone | loadFail | autoRetire
  deriving DecidableEq, Repr

/-- The bit of a route event (12, Value codes). -/
def RouteEvent.mask : RouteEvent → BitVec 8
  | .late => 0x01
  | .early => 0x02
  | .cadenceLock => 0x04
  | .cadenceBreak => 0x08
  | .starved => 0x10
  | .lapsed => 0x20
  | .clip => 0x40
  | .continuity => 0x80

/-- The bit of a feed event (12, Value codes). -/
def FeedEvent.mask : FeedEvent → BitVec 4
  | .state => 0x1
  | .overrun => 0x2
  | .damaged => 0x4
  | .runt => 0x8

/-- The bit of a device event (12, Value codes). -/
def DeviceEvent.mask : DeviceEvent → BitVec 5
  | .refChange => 0x01
  | .cmdFault => 0x02
  | .loadDone => 0x04
  | .loadFail => 0x08
  | .autoRetire => 0x10

/-- Raise a route event: a kind already pending leaves the set as it is (R76). -/
def Route.raise (r : Route) (e : RouteEvent) : Route :=
  { r with events := r.events ||| e.mask }

/-- Raise a route event when a condition holds. -/
def Route.raiseIf (r : Route) (c : Bool) (e : RouteEvent) : Route :=
  if c then r.raise e else r

/-- Raise a feed event (R37). -/
def Feed.raise (f : Feed) (e : FeedEvent) : Feed :=
  { f with events := f.events ||| e.mask }

/-- Raise a device event (R158). -/
def Device.raise (d : Device) (e : DeviceEvent) : Device :=
  { d with events := d.events ||| e.mask }

/-- An index joins the retired set and AUTO_RETIRE is raised (R158). -/
def Device.retire (d : Device) (i : RouteId) : Device :=
  { d.raise .autoRetire with retired := d.retired ||| (1#16 <<< i.val) }

/-- The bits of the summary word, from bit 0: route records 0 to 15, feeds 0 to 7, the device (R161). -/
def summaryBits (routes : RouteTable) (feeds : Vector Feed 8) (d : Device) : List Bool :=
  routes.toList.map (fun r => r.events &&& d.routeMask != 0)
    ++ feeds.toList.map (fun f => f.events &&& d.feedMask != 0)
    ++ [d.events &&& d.deviceMask != 0]

/-- The number whose bits, from bit 0, are those of a list. -/
def bitsNat : List Bool → Nat
  | [] => 0
  | b :: bs => b.toNat + 2 * bitsNat bs

/-- The summary word (R161; 12, The control window). -/
def summaryWord (routes : RouteTable) (feeds : Vector Feed 8) (d : Device) : Word :=
  BitVec.ofNat 32 (bitsNat (summaryBits routes feeds d))

/-- The summary word and the notification line recomputed from the pending sets, the masks and the global enable
(R161). -/
def State.notify (s : State) : State :=
  let summary := summaryWord s.routes s.feeds s.device
  { s with device := { s.device with summary := summary, line := s.device.enable && summary != 0 } }

/-- Raise a device event. -/
def State.raiseDevice (s : State) (e : DeviceEvent) : State :=
  { s with device := s.device.raise e }

end Sys2Proof.Machine
end

