-- ==== Sys2Proof/Machine/Standards.lean ====
section
/-! DEFINITION. The picture standards and the timecode counting (R1 to R3). -/

namespace Sys2Proof.Machine

/-- The code of a standard, 1 to 10 (R1). -/
def Standard.code : Standard → Nat
  | .s625i => 1
  | .s525i => 2
  | .h50i => 3
  | .h5994i => 4
  | .h25p => 5
  | .h2997p => 6
  | .h2398p => 7
  | .h24p => 8
  | .h50p => 9
  | .h5994p => 10

/-- The standard of a code; none for code 0 and for a code past 10 (R1). -/
def standardOfCode : Nat → Option Standard
  | 1 => some .s625i
  | 2 => some .s525i
  | 3 => some .h50i
  | 4 => some .h5994i
  | 5 => some .h25p
  | 6 => some .h2997p
  | 7 => some .h2398p
  | 8 => some .h24p
  | 9 => some .h50p
  | 10 => some .h5994p
  | _ => none

/-- Whether a standard carries fields (R1). -/
def Standard.interlaced : Standard → Bool
  | .s625i | .s525i | .h50i | .h5994i => true
  | .h25p | .h2997p | .h2398p | .h24p | .h50p | .h5994p => false

/-- The family of a standard (R1). -/
def Standard.family : Standard → Family
  | .s625i | .s525i => .sd
  | .h50i | .h5994i | .h25p | .h2997p | .h2398p | .h24p | .h50p | .h5994p => .hd

/-- The frame height H (R1). -/
def Standard.height : Standard → Nat
  | .s625i => 576
  | .s525i => 486
  | .h50i | .h5994i | .h25p | .h2997p | .h2398p | .h24p | .h50p | .h5994p => 1080

/-- The lines per picture: half of H for a field and H for a frame (R1). -/
def Standard.lines : Standard → Nat
  | .s625i => 288
  | .s525i => 243
  | .h50i | .h5994i => 540
  | .h25p | .h2997p | .h2398p | .h24p | .h50p | .h5994p => 1080

/-- The samples per line W of a family (R1). -/
def Family.width : Family → Nat
  | .sd => 720
  | .hd => 1920

/-- The samples per line W (R1). -/
def Standard.width (st : Standard) : Nat :=
  st.family.width

/-- The nominal period N in ticks (R1). -/
def Standard.nominal : Standard → Nat
  | .s625i | .h50i | .h50p => 540000
  | .s525i | .h5994i | .h5994p => 450450
  | .h25p => 1080000
  | .h2997p => 900900
  | .h2398p => 1126125
  | .h24p => 1125000

/-- How many timecode frames a timecode second counts (R1, R2). -/
def Standard.frames : Standard → Nat
  | .s625i | .h50i | .h25p | .h50p => 25
  | .s525i | .h5994i | .h2997p | .h5994p => 30
  | .h2398p | .h24p => 24

/-- Whether the standard's timecode counting drops frame numbers (R1, R2). -/
def Standard.drop : Standard → Bool
  | .s525i | .h5994i | .h2997p | .h5994p => true
  | .s625i | .h50i | .h25p | .h50p | .h2398p | .h24p => false

/-- Whether the standard's timecode counts pairs of pictures (R1, R2). -/
def Standard.pairs : Standard → Bool
  | .s625i | .s525i | .h50i | .h5994i | .h50p | .h5994p => true
  | .h25p | .h2997p | .h2398p | .h24p => false

/-- The parity of the first picture after a start (R10). -/
def Standard.firstParity (st : Standard) : Parity :=
  if st.interlaced then .top else .frame

/-- The parity of the picture that follows one of parity `p` on a timeline (R11). -/
def Standard.parityAfter (st : Standard) (p : Parity) : Parity :=
  if st.interlaced then (if p = .top then .bottom else .top) else .frame

/-- The parity a feed port reports: the signal's field identification, or FRAME in a progressive standard (R18). -/
def Standard.startParity (st : Standard) (bottom : Bool) : Parity :=
  if st.interlaced then (if bottom then .bottom else .top) else .frame

/-- 256·N, the nominal value of the estimated period E (R22). -/
def Standard.nominalPeriod (st : Standard) : Nat :=
  256 * st.nominal

/-- Whether a timecode value is valid for a standard (R2). -/
def Standard.validTimecode (st : Standard) (tc : Timecode) : Bool :=
  decide (tc.hours < 24) && decide (tc.minutes < 60) && decide (tc.seconds < 60) && decide (tc.frame < st.frames)
    && (tc.drop == st.drop) && (!tc.pair || st.pairs)
    && !(st.drop && decide (tc.seconds = 0) && decide (tc.minutes % 10 ≠ 0) && decide (tc.frame < 2))

/-- The first frame number of a minute (R3): 2 in a drop-counting standard unless the minute is divisible by 10. -/
def Standard.minuteFrame (st : Standard) (minutes : Nat) : Nat :=
  if st.drop && decide (minutes % 10 ≠ 0) then 2 else 0

/-- The next timecode frame (R3): the frame number advances, with its carries into seconds, minutes and hours. -/
def Standard.advanceFrame (st : Standard) (tc : Timecode) : Timecode :=
  if tc.frame + 1 < st.frames then
    { tc with frame := tc.frame + 1, drop := st.drop, pair := false }
  else if tc.seconds + 1 < 60 then
    { tc with frame := 0, seconds := tc.seconds + 1, drop := st.drop, pair := false }
  else if tc.minutes + 1 < 60 then
    { tc with frame := st.minuteFrame (tc.minutes + 1), seconds := 0, minutes := tc.minutes + 1, drop := st.drop,
              pair := false }
  else
    { hours := if tc.hours + 1 < 24 then tc.hours + 1 else 0, minutes := 0, seconds := 0, frame := 0, drop := st.drop,
      pair := false }

/-- One advance of a timecode value (R3). -/
def Standard.advance (st : Standard) (tc : Timecode) : Timecode :=
  if st.pairs && !tc.pair then { tc with drop := st.drop, pair := true } else st.advanceFrame tc

end Sys2Proof.Machine
end

