-- ==== Sys2Proof/Machine/Ops.lean ====
section
/-! DEFINITION. The named operations over the tables, the stacked DRAM and the slot counts. -/

namespace Sys2Proof.Machine

/-! ## Tables -/

/-- Entry `i` of a table. -/
def tget {α : Type} {n : Nat} (t : Vector α n) (i : Fin n) : α :=
  t[i.val]

/-- A table with entry `i` replaced. -/
def tset {α : Type} {n : Nat} (t : Vector α n) (i : Fin n) (a : α) : Vector α n :=
  t.set i.val a

/-- The record of a feed. -/
def State.feed (s : State) (f : FeedId) : Feed := tget s.feeds f

/-- Replace the record of a feed. -/
def State.setFeed (s : State) (f : FeedId) (a : Feed) : State := { s with feeds := tset s.feeds f a }

/-- What a feed port holds. -/
def State.feedPort (s : State) (f : FeedId) : FeedPort := tget s.feedPorts f

/-- Replace what a feed port holds. -/
def State.setFeedPort (s : State) (f : FeedId) (a : FeedPort) : State := { s with feedPorts := tset s.feedPorts f a }

/-- A route record. -/
def State.route (s : State) (i : RouteId) : Route := tget s.routes i

/-- Replace a route record. -/
def State.setRoute (s : State) (i : RouteId) (r : Route) : State := { s with routes := tset s.routes i r }

/-- A slot record. -/
def State.slot (s : State) (i : SlotId) : Slot := tget s.slots i

/-- An output port record. -/
def State.port (s : State) (p : PortId) : Port := tget s.ports p

/-- Replace an output port record. -/
def State.setPort (s : State) (p : PortId) (a : Port) : State := { s with ports := tset s.ports p a }

/-- A profile of the Profile Table. -/
def State.profile (s : State) (i : ProfileId) : Profile := tget s.profiles i

/-- A timeline. -/
def State.timeline (s : State) : TimelineId → Timeline
  | .a => s.timelineA
  | .b => s.timelineB

/-- Replace a timeline. -/
def State.setTimeline (s : State) (t : TimelineId) (tl : Timeline) : State :=
  match t with
  | .a => { s with timelineA := tl }
  | .b => { s with timelineB := tl }

/-- The timeline an output port is assigned to (R14). -/
def State.portTimeline (s : State) (p : PortId) : TimelineId := (s.port p).timeline

/-! ## The stacked DRAM (R40) -/

/-- How many bytes the stacked DRAM has (R40). -/
def dramBytes : Nat := 1073741824

/-- How many bytes the region of a slot has (R40). -/
def slotBytes : Nat := 8388608

/-- The canonical form of the DRAM: addresses strictly rising and inside the DRAM, and no entry equal to what an
unlisted byte reads as. -/
abbrev Memory.wf (m : List Host.Cell) : Prop :=
  m.Pairwise (fun x y => x.1 < y.1) ∧ ∀ c ∈ m, c.2 ≠ 0 ∧ c.1 < dramBytes

/-- One byte of the DRAM. A byte nothing has written reads 0 (DESIGN CHOICE, log 7). -/
def Memory.read (m : List Host.Cell) (address : Nat) : BitVec 8 :=
  match m.find? (fun c => c.1 == address) with
  | some c => c.2
  | none => 0

/-- The entries that a run of bytes from `base` makes: the bytes that differ from what an unlisted byte reads as. -/
def Memory.cells (base : Nat) : List (BitVec 8) → List Host.Cell
  | [] => []
  | b :: bs => if b = 0 then Memory.cells (base + 1) bs else (base, b) :: Memory.cells (base + 1) bs

/-- Write a run of bytes from `base`; bytes past the end of the DRAM do not exist and are not written. -/
def Memory.write (m : List Host.Cell) (base : Nat) (bytes : List (BitVec 8)) : List Host.Cell :=
  m.filter (fun c => decide (c.1 < base))
    ++ (Memory.cells base bytes).filter (fun c => decide (c.1 < dramBytes))
    ++ m.filter (fun c => decide (base + bytes.length ≤ c.1))

/-- The byte address of column `col` of active line `k` of the picture in slot `i`, for a picture of `width` columns
(R40): the luma word, with the colour-difference word after it (DESIGN CHOICE, log 8). -/
def pelAddress (i : SlotId) (width k col : Nat) : Nat :=
  i.val * slotBytes + k * (4 * width) + 4 * col

/-- A sample's 16-bit word as bytes, the low byte first (DESIGN CHOICE, log 8). -/
def sampleBytes (x : Sample) : List (BitVec 8) :=
  [x.setWidth 8, (x >>> 8).setWidth 8]

/-- A line's bytes in the order they lie in the region (R40). -/
def lineBytes (pels : List Pel) : List (BitVec 8) :=
  pels.flatMap (fun p => sampleBytes p.luma ++ sampleBytes p.chroma)

/-- The 16-bit word at a byte address, low byte first (DESIGN CHOICE, log 8). -/
def Memory.readWord (m : List Host.Cell) (address : Nat) : Nat :=
  (Memory.read m address).toNat + 256 * (Memory.read m (address + 1)).toNat

/-! ## Slot counts (R47 to R49) -/

/-- The sixteen slots of a feed, lowest first (R38). -/
def feedSlots (f : FeedId) : List SlotId :=
  (List.finRange 16).map (fun k => ⟨16 * f.val + k.val, by omega⟩)

/-- A READY slot with no holder and no user is free at once (R49). The record of the picture it held (sequence number,
standard, parity, timecode, ancillary list) stays as it was: R38 says only that a FREE slot's are not read until its next
allocation sets them (DESIGN CHOICE, log 32). -/
def Slot.settle (s : Slot) : Slot :=
  if s.state = .ready ∧ s.hold = 0 ∧ s.pin = 0 then { s with state := .free } else s

/-- Raise a slot's hold count (R47). -/
def SlotTable.hold (t : SlotTable) (i : SlotId) : SlotTable :=
  tset t i { tget t i with hold := (tget t i).hold + 1 }

/-- Lower a slot's hold count (R47), freeing the slot when nothing is left (R49). -/
def SlotTable.unhold (t : SlotTable) (i : SlotId) : SlotTable :=
  tset t i { tget t i with hold := (tget t i).hold - 1 }.settle

/-- Raise a slot's pin count (R48). -/
def SlotTable.pin (t : SlotTable) (i : SlotId) : SlotTable :=
  tset t i { tget t i with pin := (tget t i).pin + 1 }

/-- Lower a slot's pin count (R48), freeing the slot when nothing is left (R49). -/
def SlotTable.unpin (t : SlotTable) (i : SlotId) : SlotTable :=
  tset t i { tget t i with pin := (tget t i).pin - 1 }.settle

/-- Lower the hold count of each slot of a list. -/
def SlotTable.unholdAll (t : SlotTable) (l : List SlotId) : SlotTable :=
  l.foldl SlotTable.unhold t

/-- Replace a pair of pinned slots (R48): slots in both keep their count, slots only in the new pair gain one, slots
only in the old pair lose one. -/
def SlotTable.replacePair (t : SlotTable) (old new : List SlotId) : SlotTable :=
  (old.filter (fun i => !new.contains i)).foldl SlotTable.unpin
    ((new.filter (fun i => !old.contains i)).foldl SlotTable.pin t)

/-- Release a pair (R48). -/
def SlotTable.releasePair (t : SlotTable) (old : List SlotId) : SlotTable :=
  t.replacePair old []

/-- The slots of an output pair, position A first. -/
def PairSlots.list : PairSlots → List SlotId
  | .onlyA a => [a]
  | .both a b => [a, b]
  | .onlyB b => [b]

/-- The slots of a pair that may be missing. -/
def pairList (p : Option OutputPair) : List SlotId :=
  match p with
  | some q => q.slots.list
  | none => []

/-- The dominant slot of a pair with its weight (R125). -/
def PairSlots.dominant (p : PairSlots) (weight : Nat) : SlotId :=
  match p with
  | .onlyA a => a
  | .onlyB b => b
  | .both a b => if weight < 32 then a else b

/-! ## Live routes -/

/-- Whether a state is live (R56, R57). -/
def RouteState.live : RouteState → Bool
  | .priming | .running | .held | .starved | .lapsed => true
  | .free | .closing => false

/-- Whether a state is a taking state (R57). -/
def RouteState.taking : RouteState → Bool
  | .priming | .running | .held => true
  | .free | .closing | .starved | .lapsed => false

/-- Whether a record is a live route on a port. -/
def Route.liveOn (r : Route) (p : PortId) : Bool :=
  r.state.live && r.port == p

/-- The live route that names a port, if any (R57). -/
def State.routeOnPort (s : State) (p : PortId) : Option RouteId :=
  (List.finRange 16).find? (fun i => (s.route i).liveOn p)

/-- How many live routes have their port assigned to a timeline (R12, R13). -/
def State.liveOnTimeline (s : State) (t : TimelineId) : Nat :=
  (List.finRange 16).countP (fun i => (s.route i).state.live && s.portTimeline (s.route i).port == t)

/-- The handle of a route: its index plus 16 times its generation (R56). -/
def handleOf (i : RouteId) (generation : Fin 16) : Nat :=
  i.val + 16 * generation.val

/-- The index a handle names (R56). -/
def handleIndex (h : Nat) : RouteId :=
  Fin.ofNat 16 h

/-- Whether a handle is valid: its record is live and its generation is the record's (R56). -/
def State.handleValid (s : State) (h : Nat) : Bool :=
  (s.route (handleIndex h)).state.live && decide ((s.route (handleIndex h)).generation.val = h / 16)

/-- Every route record of a table changed by `f`, in index order, with the slot table threaded through. -/
def overRoutes (f : RouteId → Route → SlotTable → Route × SlotTable) (routes : RouteTable) (slots : SlotTable) :
    RouteTable × SlotTable :=
  (List.finRange 16).foldl
    (fun acc i =>
      let res := f i (tget acc.1 i) acc.2
      (tset acc.1 i res.1, res.2))
    (routes, slots)

/-- Every route record of the part changed by `f`, with the Slot Table. -/
def State.overRoutes (s : State) (f : RouteId → Route → SlotTable → Route × SlotTable) : State :=
  let res := Sys2Proof.Machine.overRoutes f s.routes s.slots
  { s with routes := res.1, slots := res.2 }

end Sys2Proof.Machine
end

