-- ==== Sys2Proof/Machine/Operands.lean ====
section
/-! DEFINITION. The layouts of command, reply and flash words (12, Word formats; R171, R172): field extraction, value
codes, the decoding of command fields and the packing of reply words. -/

namespace Sys2Proof.Machine

/-! ## Fields of words -/

/-- The field of `n` bits from bit `lo` of a word. -/
def bits (w : Word) (lo n : Nat) : Nat :=
  w.toNat / 2 ^ lo % 2 ^ n

/-- Bit `i` of a word. -/
def bit (w : Word) (i : Nat) : Bool :=
  w.getLsbD i

/-- A field for packing: its value, its lowest bit and its width; bits past the width are cut off. -/
structure Field where
  value : Nat
  lo    : Nat
  width : Nat

/-- A flag as a field's value. -/
def flag (b : Bool) : Nat :=
  if b then 1 else 0

/-- A reply word of fields that do not overlap; bits that no field names read 0 (R172). -/
def pack (fields : List Field) : Word :=
  BitVec.ofNat 32 ((fields.map (fun f => f.value % 2 ^ f.width * 2 ^ f.lo)).sum)

/-- An 8-bit field read as two's complement (R172). -/
def signed8 (n : Nat) : Int :=
  if n < 128 then (n : Int) else (n : Int) - 256

/-- Word `n` of a command counted from its header as word 0, where `args` are the words after the header (R152). -/
def arg (args : List Word) (n : Nat) : Word :=
  args.getD (n - 1) 0

/-! ## Value codes (12) -/

/-- Route state codes. -/
def RouteState.code : RouteState → Nat
  | .free => 0
  | .priming => 1
  | .running => 2
  | .held => 3
  | .starved => 4
  | .lapsed => 5
  | .closing => 6

/-- Feed state codes. -/
def FeedState.code : FeedState → Nat
  | .unconfigured => 0
  | .empty => 1
  | .acquire => 2
  | .locked => 3
  | .lost => 4
  | .mismatch => 5

/-- Cadence mode codes. -/
def CadenceMode.code : CadenceMode → Nat
  | .off => 0
  | .auto => 1

/-- The cadence mode of a code. -/
def cadenceOfCode : Nat → Option CadenceMode
  | 0 => some .off
  | 1 => some .auto
  | _ => none

/-- Timecode mode codes. -/
def TimecodeMode.code : TimecodeMode → Nat
  | .off => 0
  | .source => 1
  | .house => 2

/-- The timecode mode of a code. -/
def timecodeModeOfCode : Nat → Option TimecodeMode
  | 0 => some .off
  | 1 => some .source
  | 2 => some .house
  | _ => none

/-- Unmapped action codes. -/
def UnmappedAction.code : UnmappedAction → Nat
  | .drop => 0
  | .passOnce => 1
  | .passEvery => 2

/-- The unmapped action of a code. -/
def unmappedOfCode : Nat → Option UnmappedAction
  | 0 => some .drop
  | 1 => some .passOnce
  | 2 => some .passEvery
  | _ => none

/-- Repeat policy codes. -/
def RepeatPolicy.code : RepeatPolicy → Nat
  | .once => 0
  | .every => 1

/-- The repeat policy of a one-bit code. -/
def policyOfCode (n : Nat) : RepeatPolicy :=
  if n = 0 then .once else .every

/-- Feed profile codes. -/
def FeedProfile.code : FeedProfile → Nat
  | .track => 0
  | .nominal => 1

/-- The feed profile of a code. -/
def feedProfileOfCode : Nat → Option FeedProfile
  | 0 => some .track
  | 1 => some .nominal
  | _ => none

/-- Timeline codes. -/
def timelineCode : TimelineId → Nat
  | .a => 0
  | .b => 1

/-- The timeline of a code. -/
def timelineOfCode : Nat → Option TimelineId
  | 0 => some .a
  | 1 => some .b
  | _ => none

/-- Timeline state codes. -/
def TimelineState.code : TimelineState → Nat
  | .stopped => 0
  | .running => 1

/-- Parity codes. -/
def Parity.code : Parity → Nat
  | .top => 0
  | .bottom => 1
  | .frame => 2

/-- Reference family codes. -/
def RefFamily.code : RefFamily → Nat
  | .fifty => 0
  | .fiftyNine94 => 1

/-- The reference family of a code. -/
def refFamilyOfCode : Nat → Option RefFamily
  | 0 => some .fifty
  | 1 => some .fiftyNine94
  | _ => none

/-- Reference mode codes. -/
def RefMode.code : RefMode → Nat
  | .auto => 0
  | .manualExternal => 1
  | .manualInternal => 2

/-- The reference mode of a code. -/
def refModeOfCode : Nat → Option RefMode
  | 0 => some .auto
  | 1 => some .manualExternal
  | 2 => some .manualInternal
  | _ => none

/-- Tick source codes. -/
def TickSource.code : TickSource → Nat
  | .internal => 0
  | .locked => 1
  | .holdover => 2

/-- Port content codes. -/
def Content.code : Content → Nat
  | .black => 0
  | .live => 1
  | .hold => 2

/-- Monitor content codes. -/
def MonitorContent.code : MonitorContent → Nat
  | .black => 0
  | .copy => 1
  | .picture => 2

/-- Profile kind codes in a reply. -/
def Profile.code : Profile → Nat
  | .curve _ => 0
  | .snap => 1
  | .empty => 2

/-- Pattern codes. -/
def Pattern.code : Pattern → Nat
  | .f23 => 1
  | .p23 => 2
  | .p22 => 3

/-- Checker state codes. -/
def CheckerState.code : CheckerState → Nat
  | .hunt => 0
  | .sync => 1

/-- Status codes. -/
def Status.code : Status → Nat
  | .ok => 0
  | .stale => 1
  | .noRoute => 2
  | .range => 3
  | .feedUnconfigured => 4
  | .feedInUse => 5
  | .portTaken => 6
  | .portInUse => 7
  | .family => 8
  | .profileEmpty => 9
  | .curveInvalid => 10
  | .mapDuplicate => 11
  | .fixed => 12
  | .timelineInUse => 13
  | .manualLatched => 14

/-- Loader outcome codes. -/
def LoadOutcome.code : LoadOutcome → Nat
  | .none => 0
  | .done => 1
  | .fail => 2

/-- Loader failure cause codes; none is 0. -/
def loadCauseCode : Option LoadCause → Nat
  | none => 0
  | some .read => 1
  | some .signature => 2
  | some .checksum => 3

/-- CU state codes. The model's own `takeDue` reads as IDLE (DESIGN CHOICE, log 1). -/
def CuState.code : CuState → Nat
  | .loading => 0
  | .idle => 1
  | .waitData => 2
  | .waitReply => 3
  | .fault => 4
  | .takeDue => 1

/-- Fault cause codes. -/
def FaultCause.code : FaultCause → Nat
  | .unknownKind => 1
  | .badLength => 2

/-! ## Command kinds (12, Kinds, lengths and largest replies) -/

/-- The code of a command kind. -/
def kindCode : CmdKind → Nat
  | .routeOpen => 1
  | .routeAlter => 2
  | .routeClose => 3
  | .routeRead => 4
  | .routeHold => 5
  | .routeRelease => 6
  | .routeTrim => 7
  | .presetOpen => 8
  | .feedSet => 9
  | .feedRead => 10
  | .trackSet => 11
  | .profileWrite => 12
  | .profileRead => 13
  | .timelineSet => 14
  | .timelineRead => 15
  | .portSet => 16
  | .portMute => 17
  | .referenceSet => 18
  | .monitorSet => 19
  | .checkSet => 20
  | .eventsTake => 21
  | .notifySet => 22
  | .deviceRead => 23

/-- The command kind of a code: 0 and 24 to 255 are unknown (R171). -/
def kindOfCode : Nat → Option CmdKind
  | 1 => some .routeOpen
  | 2 => some .routeAlter
  | 3 => some .routeClose
  | 4 => some .routeRead
  | 5 => some .routeHold
  | 6 => some .routeRelease
  | 7 => some .routeTrim
  | 8 => some .presetOpen
  | 9 => some .feedSet
  | 10 => some .feedRead
  | 11 => some .trackSet
  | 12 => some .profileWrite
  | 13 => some .profileRead
  | 14 => some .timelineSet
  | 15 => some .timelineRead
  | 16 => some .portSet
  | 17 => some .portMute
  | 18 => some .referenceSet
  | 19 => some .monitorSet
  | 20 => some .checkSet
  | 21 => some .eventsTake
  | 22 => some .notifySet
  | 23 => some .deviceRead
  | _ => none

/-- The shortest length of a kind, in words with the header. -/
def minLength : CmdKind → Nat
  | .routeOpen | .feedSet | .notifySet => 4
  | .routeAlter => 5
  | .deviceRead => 1
  | .routeClose | .routeRead | .routeHold | .routeRelease | .routeTrim | .presetOpen | .feedRead | .trackSet
  | .profileWrite | .profileRead | .timelineSet | .timelineRead | .portSet | .portMute | .referenceSet | .monitorSet
  | .checkSet | .eventsTake => 2

/-- The longest length of a kind, in words with the header. -/
def maxLength : CmdKind → Nat
  | .routeOpen => 20
  | .routeAlter => 21
  | .profileWrite => 7
  | .timelineSet => 3
  | .feedSet | .notifySet => 4
  | .deviceRead => 1
  | .routeClose | .routeRead | .routeHold | .routeRelease | .routeTrim | .presetOpen | .feedRead | .trackSet
  | .profileRead | .timelineRead | .portSet | .portMute | .referenceSet | .monitorSet | .checkSet | .eventsTake => 2

/-- The largest reply of a kind, in words with the header. -/
def largestReply : CmdKind → Nat
  | .routeAlter => 20
  | .routeRead => 48
  | .feedRead => 13
  | .profileRead => 7
  | .timelineRead => 8
  | .monitorSet => 4
  | .feedSet | .notifySet => 3
  | .deviceRead => 64
  | .profileWrite | .portSet => 1
  | .routeOpen | .routeClose | .routeHold | .routeRelease | .routeTrim | .presetOpen | .trackSet | .timelineSet
  | .portMute | .referenceSet | .checkSet | .eventsTake => 2

/-- The kind field of a command header. -/
def headerKind (h : Word) : Nat := bits h 0 8

/-- The tag field of a command header. -/
def headerTag (h : Word) : Nat := bits h 8 8

/-- The length field of a command header: the full 8-bit field (R171). -/
def headerLength (h : Word) : Nat := bits h 16 8

/-- A command that stands whole in the ring: its kind, its tag, its length and the words after its header (R152). -/
structure Command where
  kind   : CmdKind
  tag    : Nat
  length : Nat
  args   : List Word
  deriving DecidableEq, Repr

/-- What a block hands back for a command: the status, and the words of the reply after its header (R152). -/
structure Reply where
  status  : Status
  payload : List Word
  deriving DecidableEq, Repr

/-- A refusal: the status alone (R153). -/
def Reply.refusal (st : Status) : Reply := { status := st, payload := [] }

/-- An accepted command's reply. -/
def Reply.ok (payload : List Word) : Reply := { status := .ok, payload := payload }

/-- The header word of a reply (12, Reply header). -/
def replyHeader (c : Command) (r : Reply) : Word :=
  pack [⟨kindCode c.kind, 0, 8⟩, ⟨c.tag, 8, 8⟩, ⟨r.status.code, 16, 8⟩, ⟨r.payload.length + 1, 24, 8⟩]

/-! ## Shared words (12) -/

/-- A timecode word. -/
def timecodeWord (tc : Timecode) : Word :=
  pack [⟨tc.frame, 0, 8⟩, ⟨tc.seconds, 8, 8⟩, ⟨tc.minutes, 16, 8⟩, ⟨tc.hours, 24, 6⟩, ⟨flag tc.drop, 30, 1⟩,
    ⟨flag tc.pair, 31, 1⟩]

/-- The starting timecode of a TIMELINE_SET: bits 30 and 31 of its word are ignored, the drop flag is the standard's
and the pair flag 0 (R12; 12, TIMELINE_SET). -/
def startTimecode (st : Standard) (w : Word) : Timecode where
  hours := bits w 24 6
  minutes := bits w 16 8
  seconds := bits w 8 8
  frame := bits w 0 8
  drop := st.drop
  pair := false

/-- The reference word. -/
def referenceWord (r : Reference) : Word :=
  pack [⟨r.family.code, 0, 1⟩, ⟨r.mode.code, 2, 2⟩, ⟨r.source.code, 4, 2⟩, ⟨r.goodRun, 8, 5⟩, ⟨r.badPulses, 16, 16⟩]

/-- The mask word. -/
def maskWord (d : Device) : Word :=
  pack [⟨d.routeMask.toNat, 0, 8⟩, ⟨d.feedMask.toNat, 8, 4⟩, ⟨d.deviceMask.toNat, 16, 5⟩, ⟨flag d.enable, 24, 1⟩]

/-- The number of a slot that may be missing; an absent part reads 0 (R172). -/
def slotCode (i : Option SlotId) : Nat :=
  match i with
  | some s => s.val
  | none => 0

/-- The sequence number of a slot that may be missing; an absent part reads 0 (R172). -/
def slotSeq (slots : SlotTable) (i : Option SlotId) : Word :=
  match i with
  | some s => (tget slots s).seq
  | none => 0

/-- The port or feed number of a monitor view. -/
def MonitorView.number : MonitorView → Nat
  | .off => 0
  | .port p => p.val
  | .feed f _ => f.val

/-- The code of a monitor view's kind. -/
def MonitorView.code : MonitorView → Nat
  | .off => 0
  | .port _ => 1
  | .feed _ _ => 2

/-- The code of a monitor view's timeline; 0 where the view has none. -/
def MonitorView.timelineCode : MonitorView → Nat
  | .off => 0
  | .port _ => 0
  | .feed _ t => Sys2Proof.Machine.timelineCode t

/-- The three monitor words. -/
def monitorWords (m : Monitor) (slots : SlotTable) : List Word :=
  [pack [⟨m.view.code, 0, 2⟩, ⟨m.view.number, 4, 3⟩, ⟨m.view.timelineCode, 7, 1⟩, ⟨m.content.code, 8, 2⟩,
    ⟨flag m.latest.isSome, 12, 1⟩, ⟨flag m.pair.isSome, 13, 1⟩, ⟨slotCode m.latest, 16, 7⟩, ⟨slotCode m.pair, 24, 7⟩],
   slotSeq slots m.latest, slotSeq slots m.pair]

/-! ## Route settings (12, ROUTE_OPEN) -/

/-- A map entry's two words in a command. -/
def rawEntryOfWords (w1 w2 : Word) : RawMapEntry where
  family := bits w1 0 8
  kind := bits w1 8 8
  action := bits w1 16 2
  policy := bits w1 18 1
  newFamily := bits w2 0 8
  newKind := bits w2 8 8

/-- The map entries a command's words hold: whole entries only (R153). -/
def rawEntries : List Word → List RawMapEntry
  | w1 :: w2 :: rest => rawEntryOfWords w1 w2 :: rawEntries rest
  | _ => []

/-- The setting in a command's words, the setting words being the first three. -/
def requestOfWords (ws : List Word) : OpenRequest :=
  let w1 := ws.getD 0 0
  let w2 := ws.getD 1 0
  let w3 := ws.getD 2 0
  { feed := bits w1 0 8
    port := bits w1 8 8
    profile := bits w1 16 8
    trim := bits w1 24 8
    cadence := bits w2 0 2
    timecode := bits w2 2 2
    unmapped := bits w2 4 2
    holdLimit := bits w3 0 16
    retireLimit := bits w3 16 16
    mapCount := bits w2 8 8
    entries := rawEntries (ws.drop 3) }

/-- The entries of the map list a setting asks for. -/
def OpenRequest.mapEntries (q : OpenRequest) : List RawMapEntry :=
  q.entries.take q.mapCount

/-- Whether the map list fits: at most 8 entries (open check 9), and no more than the words hold (R153, log 13). -/
def OpenRequest.mapFits (q : OpenRequest) : Bool :=
  decide (q.mapCount ≤ 8) && decide (q.mapCount ≤ q.entries.length)

/-- Whether two map entries have equal keys (open check 10). -/
def OpenRequest.mapRepeats (q : OpenRequest) : Bool :=
  !decide ((q.mapEntries.map (fun e => (e.family, e.kind))).Nodup)

/-- Whether a map entry holds values of a route record (open check 11). -/
def RawMapEntry.valid (e : RawMapEntry) : Bool :=
  decide (1 ≤ e.family) && decide (e.family ≤ 255) && decide (e.action ≤ 2)

/-- Whether every entry of the map list holds values of a route record (open check 11). -/
def OpenRequest.mapValid (q : OpenRequest) : Bool :=
  q.mapEntries.all RawMapEntry.valid

/-- The map entry of a checked raw entry (R53). -/
def RawMapEntry.entry (e : RawMapEntry) : MapEntry where
  key := { family := BitVec.ofNat 8 e.family, kind := BitVec.ofNat 8 e.kind }
  action :=
    match e.action with
    | 0 => .pass (policyOfCode e.policy)
    | 1 => .retag (policyOfCode e.policy)
        { family := BitVec.ofNat 8 e.newFamily, kind := BitVec.ofNat 8 e.newKind }
    | _ => .drop

/-- A trim above 99 is taken as 99 (R58). -/
def trimOf (n : Nat) : Nat := min n 99

/-- A retire limit of 0 or 0xFFFF is taken as absent (R58). -/
def retireOf (n : Nat) : Option Nat :=
  if n = 0 ∨ n = 65535 then none else some n

/-- The setting of a checked request, adjusted as R58 says. -/
def OpenRequest.setting (q : OpenRequest) : RouteSetting where
  profile := Fin.ofNat 32 q.profile
  trim := trimOf q.trim
  cadence := (cadenceOfCode q.cadence).getD .off
  timecode := (timecodeModeOfCode q.timecode).getD .off
  holdLimit := q.holdLimit
  retireLimit := retireOf q.retireLimit
  mapList := q.mapEntries.map RawMapEntry.entry
  unmapped := (unmappedOfCode q.unmapped).getD .drop

/-- The code of a map entry's action. -/
def MapAction.code : MapAction → Nat
  | .pass _ => 0
  | .retag _ _ => 1
  | .drop => 2

/-- The code of a map entry's policy; 0 where the entry has none. -/
def MapAction.policyCode : MapAction → Nat
  | .pass p => p.code
  | .retag p _ => p.code
  | .drop => 0

/-- A map entry's replacement key as the second word; 0 where the entry has none. -/
def MapAction.newKeyWord : MapAction → Word
  | .retag _ k => pack [⟨k.family.toNat, 0, 8⟩, ⟨k.kind.toNat, 8, 8⟩]
  | .pass _ => 0
  | .drop => 0

/-- The two words of a map entry. -/
def MapEntry.words (e : MapEntry) : List Word :=
  [pack [⟨e.key.family.toNat, 0, 8⟩, ⟨e.key.kind.toNat, 8, 8⟩, ⟨e.action.code, 16, 2⟩, ⟨e.action.policyCode, 18, 1⟩],
   e.action.newKeyWord]

/-- The words of a map list. -/
def mapWords (l : List MapEntry) : List Word :=
  l.flatMap MapEntry.words

/-- The three setting words of a route; the retire limit reads 0 when absent. -/
def settingWords (r : Route) : List Word :=
  [pack [⟨r.feed.val, 0, 8⟩, ⟨r.port.val, 8, 8⟩, ⟨r.setting.profile.val, 16, 8⟩, ⟨r.setting.trim, 24, 8⟩],
   pack [⟨r.setting.cadence.code, 0, 2⟩, ⟨r.setting.timecode.code, 2, 2⟩, ⟨r.setting.unmapped.code, 4, 2⟩,
     ⟨r.setting.mapList.length, 8, 8⟩],
   pack [⟨r.setting.holdLimit, 0, 16⟩, ⟨r.setting.retireLimit.getD 0, 16, 16⟩]]

/-! ## Flash words (12, Flash module bodies) -/

/-- Word `n` of a flash list as a number; 0xFFFF, absent, past its end. -/
def flashWord (ws : List Word16) (n : Nat) : Nat :=
  (ws.getD n 0xFFFF).toNat

/-- The family of a key word: bits 8 to 15. -/
def keyFamily (w : Nat) : Nat := w / 256

/-- The kind of a key word: bits 0 to 7. -/
def keyKind (w : Nat) : Nat := w % 256

/-- A map entry of a preset, three words from word `at` of the body. -/
def rawEntryOfFlash (ws : List Word16) (pos : Nat) : RawMapEntry where
  family := keyFamily (flashWord ws pos)
  kind := keyKind (flashWord ws pos)
  action := flashWord ws (pos + 1) % 4
  policy := flashWord ws (pos + 1) / 256 % 2
  newFamily := keyFamily (flashWord ws (pos + 2))
  newKind := keyKind (flashWord ws (pos + 2))

/-- A preset entry of 35 words from word `at` of the body (R167). A start order above 16 is taken as 0. -/
def presetOfFlash (ws : List Word16) (pos : Nat) : Preset where
  request := {
    feed := flashWord ws pos
    port := flashWord ws (pos + 1)
    profile := flashWord ws (pos + 2)
    trim := flashWord ws (pos + 3)
    cadence := flashWord ws (pos + 4)
    timecode := flashWord ws (pos + 5)
    holdLimit := flashWord ws (pos + 6)
    retireLimit := flashWord ws (pos + 7)
    unmapped := flashWord ws (pos + 8)
    mapCount := flashWord ws (pos + 10)
    entries := (List.range 8).map (fun k => rawEntryOfFlash ws (pos + 11 + 3 * k)) }
  startOrder := if flashWord ws (pos + 9) ≤ 16 then flashWord ws (pos + 9) else 0

end Sys2Proof.Machine
end

