-- ==== Sys2Proof/Machine/Rings.lean ====
section
/-! DEFINITION. The command and reply rings (R148 to R157): the counts, the evaluation of the ring, the taking of a
command and its reply, and what the words of the control window read. -/

namespace Sys2Proof.Machine

/-! ## Counts (R148 to R150) -/

/-- How many words the command ring holds (R148). -/
def CommandUnit.held (cu : CommandUnit) : Nat := (cu.cmdWrite - cu.cmdRead).val

/-- The reply space (R150). -/
def CommandUnit.replySpace (cu : CommandUnit) : Nat := (cu.replyRead - cu.replyWrite - 1).val

/-- The command space word (R149). -/
def CommandUnit.commandSpace (cu : CommandUnit) : Nat :=
  if cu.state = .fault then 0 else (cu.cmdRead - cu.cmdWrite - 1).val

/-- The command word `n` places past the read index, with wrap (R152). -/
def CommandUnit.word (cu : CommandUnit) (n : Nat) : Word :=
  tget cu.cmdRing (cu.cmdRead + Fin.ofNat 1024 n)

/-- The words of a command after its header (R152). -/
def CommandUnit.args (cu : CommandUnit) (length : Nat) : List Word :=
  (List.range (length - 1)).map (fun n => cu.word (n + 1))

/-! ## Evaluation (R151) -/

/-- What an evaluation of the ring decides (R151), in the order of its cases. -/
inductive Evaluation where
  | empty
  | malformed (fault : FaultWord)
  | needWords
  | needSpace
  | due (command : Command)
  deriving DecidableEq, Repr

/-- The fault word for the header at the read index (R154). -/
def CommandUnit.faultWord (cu : CommandUnit) (cause : FaultCause) : FaultWord where
  cause := cause
  index := cu.cmdRead
  kind := BitVec.ofNat 8 (headerKind (cu.word 0))
  length := BitVec.ofNat 8 (headerLength (cu.word 0))

/-- The decision of an evaluation, from the header as it stands (R151). -/
def CommandUnit.judge (cu : CommandUnit) : Evaluation :=
  if cu.held = 0 then .empty
  else
    match kindOfCode (headerKind (cu.word 0)) with
    | none => .malformed (cu.faultWord .unknownKind)
    | some k =>
      if headerLength (cu.word 0) < minLength k ∨ maxLength k < headerLength (cu.word 0) then
        .malformed (cu.faultWord .badLength)
      else if cu.held < headerLength (cu.word 0) then .needWords
      else if cu.replySpace < largestReply k then .needSpace
      else .due { kind := k, tag := headerTag (cu.word 0), length := headerLength (cu.word 0),
                  args := cu.args (headerLength (cu.word 0)) }

/-- The state an evaluation's decision puts the Command Unit in (R151). -/
def CommandUnit.settle (cu : CommandUnit) : Evaluation → CommandUnit
  | .empty => { cu with state := .idle }
  | .malformed w => { cu with state := .fault, fault := some w }
  | .needWords => { cu with state := .waitData }
  | .needSpace => { cu with state := .waitReply }
  | .due _ => { cu with state := .takeDue }

/-- The device event an evaluation's decision raises (R154). -/
def Evaluation.raises (d : Device) : Evaluation → Device
  | .malformed _ => d.raise .cmdFault
  | .empty => d
  | .needWords => d
  | .needSpace => d
  | .due _ => d

/-- An evaluation of the ring (R151). -/
def State.evaluate (s : State) : State :=
  { s with cu := s.cu.settle s.cu.judge, device := s.cu.judge.raises s.device }

/-- An evaluation unless the Command Unit is in LOADING or FAULT (R151, R154). -/
def State.evaluateUnlessStopped (s : State) : State :=
  if s.cu.state = .loading ∨ s.cu.state = .fault then s else s.evaluate

/-! ## Taking a command (R152) -/

/-- The command that an evaluation has found due, as the ring's words stand (R152). -/
def State.dueCommand (s : State) : Option Command :=
  if s.cu.state = .takeDue then
    match s.cu.judge with
    | .due c => some c
    | .empty => none
    | .malformed _ => none
    | .needWords => none
    | .needSpace => none
  else none

/-- Words written into the reply ring from an index, with wrap (R152). -/
def writeReply (ring : Vector Word 512) (index : Fin 512) : List Word → Vector Word 512
  | [] => ring
  | w :: ws => writeReply (tset ring index w) (index + 1) ws

/-- The reply written, and the reply write index and the command read index advanced (R152). -/
def CommandUnit.reply (cu : CommandUnit) (c : Command) (r : Reply) : CommandUnit :=
  { cu with
    replyRing := writeReply cu.replyRing cu.replyWrite (replyHeader c r :: r.payload)
    replyWrite := cu.replyWrite + Fin.ofNat 512 (r.payload.length + 1)
    cmdRead := cu.cmdRead + Fin.ofNat 1024 c.length }

/-- What follows a command's effect: the summary word and the line stand before the indices advance (R152), the reply
is written, and the ring is evaluated afresh (R151). -/
def State.finishTake (s : State) (c : Command) (r : Reply) : State :=
  { s.notify with cu := s.notify.cu.reply c r }.evaluate.notify

/-- The taking of a command of kind `k`, whose owning block acts by `effect` (R152). When no command of that kind is due
nothing is taken and nothing changes (log 2). -/
def take (k : CmdKind) (effect : List Word → State → State × Reply) (s : State) : State :=
  match s.dueCommand with
  | some c => if c.kind = k then (effect c.args s).1.finishTake c (effect c.args s).2 else s
  | none => s

/-- A refusal that changes nothing (R157). -/
def refuse (s : State) (st : Status) : State × Reply := (s, Reply.refusal st)

/-- A command that names a route by a handle in bits 0 to 7 of word 1: STALE when it is not valid (R56). -/
def withHandle (args : List Word) (s : State) (k : RouteId → State × Reply) : State × Reply :=
  if s.handleValid (bits (arg args 1) 0 8) then k (handleIndex (bits (arg args 1) 0 8)) else refuse s .stale

/-! ## Writes of the control window (R148, R155, R171) -/

/-- A write of the command write index: a value below 1024 is taken, and the ring is evaluated (R148, R151). -/
def State.writeCommandIndex (s : State) (value : Word) : State :=
  State.evaluateUnlessStopped
    { s with cu := { s.cu with
        cmdWrite := if value.toNat < 1024 then Fin.ofNat 1024 value.toNat else s.cu.cmdWrite } }

/-- A write of the reply read index: a value below 512 is taken, and the ring is evaluated (R148, R151). -/
def State.writeReplyIndex (s : State) (value : Word) : State :=
  State.evaluateUnlessStopped
    { s with cu := { s.cu with
        replyRead := if value.toNat < 512 then Fin.ofNat 512 value.toNat else s.cu.replyRead } }

/-- The ring indices and the fault word cleared (R148, R155). -/
def CommandUnit.clearRings (cu : CommandUnit) : CommandUnit :=
  { cu with cmdWrite := 0, cmdRead := 0, replyWrite := 0, replyRead := 0, fault := none }

/-- A ring reset (R155): it leaves LOADING as it is and otherwise evaluates the empty ring. The summary word and the line
are not touched, as R155 says and as the pending sets it leaves ask by R161, though the table of R148 gives the summary
word 0 after a ring reset (DESIGN CHOICE between the two, log 33). -/
def State.ringReset (s : State) : State :=
  State.evaluateUnlessStopped
    { s with cu := { s.cu.clearRings with state := if s.cu.state = .loading then .loading else .idle } }

/-! ## Reads of the control window (R148, R149, R154, R171) -/

/-- What the fault word reads. -/
def faultCode (f : Option FaultWord) : Word :=
  match f with
  | none => 0
  | some w => pack [⟨w.cause.code, 0, 2⟩, ⟨w.index.val, 2, 10⟩, ⟨w.kind.toNat, 16, 8⟩, ⟨w.length.toNat, 24, 8⟩]

/-- What the word at an address of the control window reads. Reading changes nothing. -/
def State.windowRead (s : State) (address : BitVec 11) : Word :=
  if address.toNat < 1024 then tget s.cu.cmdRing (Fin.ofNat 1024 address.toNat)
  else if address.toNat < 1536 then tget s.cu.replyRing (Fin.ofNat 512 (address.toNat - 1024))
  else
    match address.toNat - 1536 with
    | 0 => BitVec.ofNat 32 s.cu.cmdWrite.val
    | 1 => if s.cu.state = .fault then 0xFFFF else BitVec.ofNat 32 s.cu.cmdRead.val
    | 2 => BitVec.ofNat 32 s.cu.replyWrite.val
    | 3 => BitVec.ofNat 32 s.cu.replyRead.val
    | 4 => BitVec.ofNat 32 s.cu.commandSpace
    | 5 => pack [⟨s.cu.state.code, 8, 3⟩]
    | 6 => s.device.summary
    | 7 => faultCode s.cu.fault
    | _ => 0

end Sys2Proof.Machine
end

