-- ==== Sys2Proof/Machine/Control.lean ====
section
/-! DEFINITION. The resets and the writes of the control window: POWER_ON_RESET (R165), CONTROL_RESET (R156),
RING_RESET (R155) and the three writes (R148, R151, R171). -/

namespace Sys2Proof.Machine

/-- A power-on reset (R165, R168): every block at its power-on values, the power-on load begun, the AUTOSTART pin
sampled. The stacked DRAM keeps its contents (R39), and the count behind the tick's free frequency goes on (log 6). -/
def State.powerOn (s : State) (autostart : Bool) : State :=
  { State.reset with
    reference := { Reference.reset with steers := s.reference.steers }
    loader := Loader.start true autostart
    dram := s.dram
    pending := s.pending }

/-- A record's generation after a control reset (R55): a live route is retired. -/
def Route.resetGeneration (r : Route) : Fin 16 :=
  if r.state.live then r.generation + 1 else r.generation

/-- A port after a control reset (R14, R120): its timeline is kept. Its pins keep the line sent last (log 11), and the
lines it has not yet sent keep the standard of the interval in progress (R104, log 29). -/
def Port.controlReset (p : Port) : Port :=
  { Port.reset p.timeline p.standard with lineOut := p.lineOut }

/-- The monitor after a control reset (R143): what holds of a port's pins and lines holds of its own (logs 11, 29). -/
def Monitor.controlReset (m : Monitor) : Monitor :=
  { Monitor.reset m.standard with lineOut := m.lineOut }

/-- A control reset outside LOADING (R156): each block at its control-reset values, the control-reset load begun. The
Reference Unit, the timelines, the port assignment and the DRAM are kept. -/
def State.controlReset (s : State) : State :=
  { s with
    trackK := trackReset
    feeds := Vector.replicate 8 Feed.reset
    feedPorts := Vector.replicate 8 FeedPort.reset
    slots := Vector.replicate 128 Slot.reset
    routes := s.routes.map (fun r => Route.free r.resetGeneration)
    profiles := profilesReset
    ports := s.ports.map Port.controlReset
    monitor := s.monitor.controlReset
    cu := { s.cu.clearRings with state := .loading }
    device := Device.reset
    loader := Loader.start false s.loader.autostart
    presets := Vector.replicate 16 none }

/-- A control-reset write: during LOADING it is ignored (R156). -/
def State.controlResetWrite (s : State) : State :=
  if s.cu.state = .loading then s else s.controlReset

/-- A write of a word of the command ring (R148). -/
def State.writeCommandWord (s : State) (n : Fin 1024) (value : Word) : State :=
  { s with cu := { s.cu with cmdRing := tset s.cu.cmdRing n value } }

/-- A write of a word of the reply ring (R148). -/
def State.writeReplyWord (s : State) (n : Fin 512) (value : Word) : State :=
  { s with cu := { s.cu with replyRing := tset s.cu.replyRing n value } }

/-- A write of the control word (R155, R156, R171): it acts on bits 0 and 1 alone, and a control reset comes before a
ring reset. -/
def State.writeControl (s : State) (value : Word) : State :=
  if bit value 1 then s.controlResetWrite else if bit value 0 then s.ringReset else s

/-- A write of a word of the control window (R148, R171). The words the part writes, and those past 0x607, ignore it. -/
def State.windowWrite (s : State) (address : BitVec 11) (value : Word) : State :=
  if address.toNat < 1024 then s.writeCommandWord (Fin.ofNat 1024 address.toNat) value
  else if address.toNat < 1536 then s.writeReplyWord (Fin.ofNat 512 (address.toNat - 1024)) value
  else if address = 0x600 then s.writeCommandIndex value
  else if address = 0x603 then s.writeReplyIndex value
  else if address = 0x605 then s.writeControl value
  else s

/-- POWER_ON_RESET (R165). -/
def execPowerOnReset (autostart : Bool) (s : State) : Host.Outcome State Fault Refusal :=
  .next (s.powerOn autostart)

/-- CONTROL_RESET (R156). -/
def execControlReset (s : State) : Host.Outcome State Fault Refusal :=
  .next s.controlResetWrite

/-- RING_RESET (R155). -/
def execRingReset (s : State) : Host.Outcome State Fault Refusal :=
  .next s.ringReset

/-- COMMAND_WRITE_INDEX_WRITE (R148, R151). -/
def execCommandWriteIndexWrite (value : Word) (s : State) : Host.Outcome State Fault Refusal :=
  .next (s.writeCommandIndex value).notify

/-- REPLY_READ_INDEX_WRITE (R148, R151). -/
def execReplyReadIndexWrite (value : Word) (s : State) : Host.Outcome State Fault Refusal :=
  .next (s.writeReplyIndex value).notify

/-- CONTROL_WINDOW_WRITE (R148, R171). -/
def execControlWindowWrite (address : BitVec 11) (value : Word) (s : State) : Host.Outcome State Fault Refusal :=
  .next (s.windowWrite address value).notify

end Sys2Proof.Machine
end

