-- ==== Sys2Proof/Machine/Interp.lean ====
section
/-! DEFINITION. The Interpolator (R104 to R115): vertical mapping, shaping of the weight, the temporal blend, the legal
range and black, and the production of a line of a picture in progress. -/

namespace Sys2Proof.Machine

/-! ## Shaping the weight (R109, R110) -/

/-- Point `i` of a curve. -/
def curvePoint (points : List Nat) (i : Nat) : Nat := points.getD i 0

/-- A weight shaped by the points of a curve (R109). -/
def shapeCurve (points : List Nat) (w : Nat) : Nat :=
  if w < 64 then
    let c0 : Int := curvePoint points (w / 4)
    let c1 : Int := curvePoint points (w / 4 + 1)
    (c0 + ((c1 - c0) * (w % 4 : Nat) + 2) / 4).toNat
  else 64

/-- A weight shaped by a profile (R109, R110). A profile that a route names is never EMPTY (R116); there the weight
is left as it is (log 18). -/
def Profile.shape (p : Profile) (w : Nat) : Nat :=
  match p with
  | .curve points => shapeCurve points w
  | .snap => if w < 32 then 0 else 64
  | .empty => w

/-- Whether a curve is valid (R110): 17 points, the first 0, the last 64, and no point less than the one before. -/
def curveValid (points : List Nat) : Bool :=
  decide (points.length = 17) && decide (curvePoint points 0 = 0) && decide (curvePoint points 16 = 64)
    && decide (points.Pairwise (· ≤ ·))

/-! ## Vertical mapping (R107) -/

/-- The place of an output line in the output frame (R107). -/
def outputPlace (parity : Parity) (y : Nat) : Nat :=
  match parity with
  | .frame => y
  | .top => 2 * y
  | .bottom => 2 * y + 1

/-- How many frame lines lie between two lines of a source picture (R107). -/
def sourceStep (parity : Parity) : Nat :=
  match parity with
  | .frame => 1
  | .top => 2
  | .bottom => 2

/-- The frame line at which a source picture begins (R107). -/
def sourceOffset (parity : Parity) : Nat :=
  match parity with
  | .frame => 0
  | .top => 0
  | .bottom => 1

/-- The position q16 of output line `y` in a source picture, in sixteenths of a source line (R107). -/
def linePosition (outStd : Standard) (outParity : Parity) (inStd : Standard) (inParity : Parity) (y : Nat) : Nat :=
  let num : Int := 16 * ((outputPlace outParity y * inStd.height : Nat) - (sourceOffset inParity * outStd.height : Nat))
  let den : Nat := sourceStep inParity * outStd.height
  if num < 0 then 0 else min (((num.toNat + den / 2)) / den) (16 * (inStd.lines - 1))

/-- A mapped sample (R107): `q` is the position, `lines` the lines of the source and `s j` its sample at line j. -/
def mapSample (lines q : Nat) (s : Nat → Nat) : Nat :=
  ((16 - q % 16) * s (q / 16) + q % 16 * s (min (q / 16 + 1) (lines - 1)) + 8) / 16

/-! ## The blend and the legal range (R111 to R113) -/

/-- The blend of two mapped samples (R111). -/
def blendSample (shaped a b : Nat) : Nat :=
  ((64 - shaped) * a + shaped * b + 32) / 64

/-- A sample brought into a range (R112). -/
def clampSample (lo hi x : Nat) : Nat := max lo (min hi x)

/-- The luma of an output column (R112). -/
def legalLuma (x : Nat) : Nat := clampSample 64 940 x

/-- The colour difference of an output column (R112). -/
def legalChroma (x : Nat) : Nat := clampSample 64 960 x

/-- A column of an output line from its blended samples (R112). -/
def legalPel (luma chroma : Nat) : Pel where
  luma := BitVec.ofNat 10 (legalLuma luma)
  chroma := BitVec.ofNat 10 (legalChroma chroma)

/-- Whether the legal range changes a column (R112). -/
def pelClamped (luma chroma : Nat) : Bool :=
  legalLuma luma != luma || legalChroma chroma != chroma

/-- A black column (R113). -/
def blackPel : Pel where
  luma := 64
  chroma := 512

/-- A black line of a standard (R113). -/
def blackLine (st : Standard) : List Pel :=
  List.replicate st.width blackPel

/-! ## Lines of a picture in progress (R106, R107, R111) -/

/-- A source picture as the mapping reads it: its slot, and its standard and parity from the slot record (R107). A
READY slot has a standard (R38); where a record has none, the output's is taken (log 18). -/
structure Source where
  slot     : SlotId
  standard : Standard
  parity   : Parity

/-- The source picture in a slot. -/
def sourceOf (slots : SlotTable) (out : Standard) (i : SlotId) : Source where
  slot := i
  standard := (tget slots i).standard.getD out
  parity := (tget slots i).parity

/-- The mapped luma and colour-difference samples of a source at line `y` and column `col` of the output (R107). -/
def mapPel (dram : List Host.Cell) (out : Standard) (parity : Parity) (src : Source) (y col : Nat) : Nat × Nat :=
  let q := linePosition out parity src.standard src.parity y
  let at_ := fun j => pelAddress src.slot src.standard.width j col
  (mapSample src.standard.lines q (fun j => Memory.readWord dram (at_ j)),
   mapSample src.standard.lines q (fun j => Memory.readWord dram (at_ j + 2)))

/-- The blended samples of a picture at line `y` and column `col` (R111): a one-slot pair is used directly. -/
def blendPel (dram : List Host.Cell) (slots : SlotTable) (p : Picture) (y col : Nat) : Nat × Nat :=
  let get := fun i => mapPel dram p.standard p.parity (sourceOf slots p.standard i) y col
  match p.slots with
  | .onlyA a => get a
  | .onlyB b => get b
  | .both a b =>
    (blendSample p.shaped (get a).1 (get b).1, blendSample p.shaped (get a).2 (get b).2)

/-- The blended samples of line `y` of a picture. -/
def blendLine (dram : List Host.Cell) (slots : SlotTable) (p : Picture) (y : Nat) : List (Nat × Nat) :=
  (List.range p.standard.width).map (fun col => blendPel dram slots p y col)

/-- An output line from its blended samples (R112). -/
def legalLine (line : List (Nat × Nat)) : List Pel :=
  line.map (fun x => legalPel x.1 x.2)

/-- Whether a sample of an output line was clamped (R112). -/
def lineClamped (line : List (Nat × Nat)) : Bool :=
  line.any (fun x => pelClamped x.1 x.2)

/-- Whether a picture has a line left to produce (R106). -/
def Picture.unfinished (p : Picture) : Bool :=
  decide (p.nextLine < p.standard.lines)

/-- The picture with its next line produced (R106): its first clamped sample sets the clipped flag, whatever its kind
(R104). -/
def Picture.advance (p : Picture) (clamped : Bool) : Picture :=
  { p with nextLine := p.nextLine + 1, clipped := p.clipped || clamped }

/-! ## Beginning a picture (R105, R114, R115) -/

/-- The LIVE picture begun from a new output pair (R105). -/
def livePicture (pair : OutputPair) (st : Standard) (parity : Parity) : Picture where
  kind := .live
  slots := pair.slots
  weight := pair.weight
  shaped := pair.shaped
  curve := some pair.curve
  standard := st
  parity := parity
  clipped := false
  nextLine := 0

/-- The REPEAT picture begun from a frozen pair (R114): slots, w, w′ and latched curve unchanged. -/
def repeatPicture (pair : OutputPair) (st : Standard) (parity : Parity) : Picture where
  kind := .repeated
  slots := pair.slots
  weight := pair.weight
  shaped := pair.shaped
  curve := some pair.curve
  standard := st
  parity := parity
  clipped := false
  nextLine := 0

/-- The monitor's picture begun from its latest slot, taken unblended with w = 0 and no latched curve (R115). Its kind
LIVE and its w′ 0 are DESIGN CHOICES (log 31): R104 gives a picture both and no rule says which the monitor's has. -/
def monitorPicture (latest : SlotId) (st : Standard) (parity : Parity) : Picture where
  kind := .live
  slots := .onlyA latest
  weight := 0
  shaped := 0
  curve := none
  standard := st
  parity := parity
  clipped := false
  nextLine := 0

end Sys2Proof.Machine
end

