-- ==== Sys2Proof/Machine/Phase.lean ====
section
/-! DEFINITION. The Phase Engine (R77 to R91): admission, the step at a boundary and the selection. -/

namespace Sys2Proof.Machine

/-! ## The step (R82 to R85) -/

/-- The base step S without cadence lock (R82). -/
def plainStep (period nOut : Nat) : Nat :=
  (16777216 * nOut + period / 2) / period

/-- The base step S with the cadence part LOCKED on a pattern of length `l` with `d` distinct pictures (R82). -/
def lockedStep (period nOut l d : Nat) : Nat :=
  (16777216 * nOut * d + period * l / 2) / (period * l)

/-- The centre C (R83). -/
def centre (trim : Nat) : Int := 65536 + 1310 * trim

/-- The correction (R83): a sixty-fourth of the last error, truncated toward zero and limited. -/
def correction (error : Int) : Int :=
  max (-2048) (min 2048 (error.tdiv 64))

/-- The highest phase of a window of `n` entries (R84). -/
def ceiling (n : Nat) : Int := 65536 * ((n : Int) - 1) - 1

/-- How a step's phase was clamped (R84). -/
inductive Clamp where
  | none | lower | upper
  deriving DecidableEq, Repr

/-- The clamp of a phase in a window of `n` entries (R84). -/
def clampOf (n : Nat) (phase : Int) : Clamp :=
  if phase < 0 then .lower else if ceiling n < phase then .upper else .none

/-- The clamped phase (R84). -/
def clampPhase (n : Nat) (phase : Int) : Int :=
  match clampOf n phase with
  | .lower => 0
  | .upper => ceiling n
  | .none => phase

/-- The window position A of a clamped phase (R85). -/
def positionA (phase : Int) : Nat := (phase / 65536).toNat

/-- The weight w of a clamped phase (R85). -/
def weightOf (phase : Int) : Nat := ((phase % 65536 + 512) / 1024).toNat

/-- The pair of slots that a weight selects from positions A and B (R85). -/
def selectSlots (weight : Nat) (a b : SlotId) : PairSlots :=
  if weight = 0 then .onlyA a else if weight = 64 then .onlyB b else .both a b

/-- The dominant entry of a selection (R85). -/
def dominantEntry (weight : Nat) (a b : WindowEntry) : WindowEntry :=
  if weight < 32 then a else b

/-! ## The cadence patterns (R93), which the base step reads -/

/-- The match flags of a pattern (R93). -/
def Pattern.flags : Pattern → List Bool
  | .f23 => [false, false, false, false, true]
  | .p23 => [false, true, false, true, true]
  | .p22 => [false, true]

/-- The length L of a pattern (R93). -/
def Pattern.length (p : Pattern) : Nat := p.flags.length

/-- The number D of distinct pictures of a pattern (R93). -/
def Pattern.distinct (p : Pattern) : Nat := p.flags.count false

/-- The lock of a route's cadence part, if it is LOCKED. -/
def Route.lock (r : Route) : Option CadenceLock :=
  r.cadence.bind CadencePart.lock

/-- The base step S of a route on a feed of period E (R82, R101). -/
def Route.baseStep (r : Route) (period : Nat) : Nat :=
  match r.lock with
  | some l => lockedStep period r.outStandard.nominal l.pattern.length l.pattern.distinct
  | none => plainStep period r.outStandard.nominal

/-- The phase of a step before its clamp (R84). -/
def Route.steppedPhase (r : Route) (period : Nat) : Int :=
  r.phase + (r.baseStep period : Int) + correction r.error

/-- The clamped phase of a step (R84). -/
def Route.nextPhase (r : Route) (period : Nat) : Int :=
  clampPhase r.window.length (r.steppedPhase period)

/-- Whether a route steps at a boundary (R81). -/
def Route.steps (r : Route) : Bool :=
  r.state == .running || (r.state == .held && decide (2 ≤ r.window.length))

/-- The phase and the error after a step (R84, R86). -/
def Route.stepPhase (r : Route) (period : Nat) : Route :=
  { r with phase := r.nextPhase period, error := centre r.setting.trim - r.nextPhase period }

/-- The counting of a clamp of a settled route (R84). -/
def Route.countClamp (r : Route) (c : Clamp) : Route :=
  if r.settled then
    match c with
    | .lower => { r with counters := { r.counters with early := sat16 r.counters.early } }.raise .early
    | .upper => { r with counters := { r.counters with late := sat16 r.counters.late } }.raise .late
    | .none => r
  else r

/-- The entries at positions A and B of a phase, when the window has both (R85). -/
def Route.positions (r : Route) (phase : Int) : Option (WindowEntry × WindowEntry) :=
  match r.window[positionA phase]?, r.window[positionA phase + 1]? with
  | some a, some b => some (a, b)
  | _, _ => none

/-- The snapshot of a selection (R88). -/
def snapshotOf (weight : Nat) (a b : WindowEntry) : Snapshot where
  seqA := a.seq
  seqB := b.seq
  weight := weight
  dominant := (dominantEntry weight a b).seq

/-- The output pair of a selection, shaped by the route's profile (R85, R105). -/
def pairOf (profile : Profile) (weight : Nat) (a b : WindowEntry) : OutputPair where
  slots := selectSlots weight a.slot b.slot
  weight := weight
  shaped := profile.shape weight
  curve := profile

/-! ## Admission (R78 to R80) -/

/-- The phase after a shift (R79). -/
def shiftPhase (phase : Int) : Int := max (-262144) (phase - 65536)

/-- The window after an entry is appended: a full window loses its oldest entry (R78, R79). -/
def appendWindow (window : List WindowEntry) (e : WindowEntry) : List WindowEntry :=
  if window.length < 4 then window ++ [e] else window.drop 1 ++ [e]

/-- The slots that an admission shifts out of a window (R79). -/
def shiftedOut (window : List WindowEntry) : List SlotId :=
  if window.length < 4 then [] else (window.take 1).map WindowEntry.slot

/-- The settled flag after an admission (R80). -/
def Route.admitSettled (r : Route) : Bool :=
  r.settled || decide (r.window.length = 3)

/-- A route's record after the admission of a slot (R78 to R80), its state left as it is. -/
def Route.admitEntry (r : Route) (i : SlotId) (seq : BitVec 32) : Route :=
  { r with
    window := appendWindow r.window { slot := i, seq := seq, admitNumber := r.nextAdmit }
    nextAdmit := r.nextAdmit + 1
    phase := if r.window.length < 4 then r.phase else shiftPhase r.phase
    settled := r.admitSettled }

/-- The entry to RUNNING of a PRIMING route whose window holds 2 entries (R61, R80). -/
def Route.enterRunning (r : Route) : Route :=
  if r.state = .priming ∧ r.window.length = 2 then
    { r with state := .running, phase := 0, error := 0, settled := false }
  else r

/-- The admission of a slot into a route's window (R78, R79, R61): the slot gains a holder and a slot shifted out loses
one. -/
def Route.admitPicture (r : Route) (slots : SlotTable) (i : SlotId) (seq : BitVec 32) : Route × SlotTable :=
  ((r.admitEntry i seq).enterRunning, (SlotTable.hold slots i).unholdAll (shiftedOut r.window))

end Sys2Proof.Machine
end

