-- ==== Sys2Proof/Machine/Cadence.lean ====
section
/-! DEFINITION. The Cadence Detector (R92 to R103). -/

namespace Sys2Proof.Machine

/-- A cadence part in SEARCH with an empty history (R92). -/
def CadencePart.search : CadencePart where
  history := []
  lock := none

/-- The cadence part a route has when its cadence mode is set afresh (R59, R73). -/
def CadenceMode.freshPart : CadenceMode → Option CadencePart
  | .off => none
  | .auto => some CadencePart.search

/-- A present cadence part returned to SEARCH by a flush (R65). -/
def flushCadence (c : Option CadencePart) : Option CadencePart :=
  c.map (fun _ => CadencePart.search)

/-- The patterns tried on a feed's standard, in their order (R93, R96). -/
def Standard.patterns (st : Standard) : List Pattern :=
  if st.interlaced then [.f23] else [.p23, .p22]

/-- The flag of a pattern at an index taken modulo its length (R93). -/
def Pattern.flagAt (p : Pattern) (i : Nat) : Bool :=
  p.flags.getD (i % p.length) false

/-- Whether a history matches a pattern at a rotation (R96). -/
def Pattern.matchesAt (p : Pattern) (history : List Bool) (r : Nat) : Bool :=
  (List.range 10).all (fun i => history.getD i false == p.flagAt (i + r))

/-- The pattern and rotation a history of ten flags matches, if any (R96). -/
def findLock (patterns : List Pattern) (history : List Bool) : Option (Pattern × Nat) :=
  (patterns.flatMap (fun p => (List.range p.length).map (fun r => (p, r)))).find?
    (fun x => x.1.matchesAt history x.2)

/-- A flag appended to a history of at most ten (R95). -/
def appendHistory (history : List Bool) (matched : Bool) : List Bool :=
  if history.length < 10 then history ++ [matched] else history.drop 1 ++ [matched]

/-- What a detector makes of a picture: its part, whether the route wants the picture, and whether it locked or broke
(R94). -/
structure CadenceResult where
  part   : CadencePart
  want   : Bool
  locked : Bool
  broke  : Bool
  deriving DecidableEq, Repr

/-- A picture in SEARCH (R95, R96): its flag is appended, and ten flags are tested for a lock. -/
def CadencePart.searchStep (c : CadencePart) (patterns : List Pattern) (matched broke : Bool) : CadenceResult :=
  let history := appendHistory c.history matched
  match if history.length = 10 then findLock patterns history else none with
  | some (p, r) =>
    { part := { history := [], lock := some { pattern := p, position := (10 + r) % p.length } }, want := true,
      locked := true, broke := broke }
  | none => { part := { history := history, lock := none }, want := true, locked := false, broke := broke }

/-- A picture handed to a detector (R94): it is judged in LOCKED (R97), where a flag of 0 at an expected-repeat index
breaks the lock and starts a new history (R98), and appended in SEARCH. -/
def CadencePart.advance (c : CadencePart) (patterns : List Pattern) (matched : Bool) : CadenceResult :=
  match c.lock with
  | none => c.searchStep patterns matched false
  | some l =>
    if l.pattern.flagAt l.position && !matched then
      CadencePart.search.searchStep patterns matched true
    else
      { part := { c with lock := some { l with position := (l.position + 1) % l.pattern.length } },
        want := !l.pattern.flagAt l.position, locked := false, broke := false }

/-- The route after its detector has taken a picture of a feed's standard, and whether the route wants the picture. A
route without a cadence part wants every picture (R94 to R98, R103). -/
def Route.cadenceStep (r : Route) (st : Standard) (matched : Bool) : Route × Bool :=
  match r.cadence with
  | none => (r, true)
  | some c =>
    let res := c.advance st.patterns matched
    ((({ r with
          cadence := some res.part
          counters := if res.broke then { r.counters with cadenceBreaks := sat16 r.counters.cadenceBreaks }
            else r.counters }.raiseIf res.broke .cadenceBreak).raiseIf res.locked .cadenceLock), res.want)

end Sys2Proof.Machine
end

