-- ==== Sys2Proof/Machine/Checker.lean ====
section
/-! DEFINITION. The Continuity Checker (R137 to R142): its checks at a boundary, and CHECK_SET. -/

namespace Sys2Proof.Machine

/-- A checker part as CHECK_SET creates it (R137). -/
def CheckerPart.fresh : CheckerPart where
  state := .hunt
  run := 0
  results := []
  previous := none

/-- A present checker part put into HUNT by a flush or by leaving RUNNING (R65, R141). -/
def flushChecker (c : Option CheckerPart) : Option CheckerPart :=
  c.map (fun _ => CheckerPart.fresh)

/-- How many errors a result window holds (R137). -/
def CheckerPart.errors (c : CheckerPart) : Nat := c.results.count false

/-- The limit of a check at base step S (R138). -/
def checkLimit (step : Nat) : Nat := (step + 65535) / 65536 + 1

/-- A result appended to a window of at most 64 (R140). -/
def appendResult (results : List Bool) (ok : Bool) : List Bool :=
  if results.length < 64 then results ++ [ok] else results.drop 1 ++ [ok]

/-- A part after a result, and whether its state changed (R139, R140). -/
def CheckerPart.apply (c : CheckerPart) (ok : Bool) : CheckerPart × Bool :=
  match c.state with
  | .hunt =>
    if ok then
      if c.run + 1 = 8 then ({ c with state := .sync, run := 8, results := [] }, true)
      else ({ c with run := c.run + 1 }, false)
    else ({ c with run := 0 }, false)
  | .sync =>
    let window := appendResult c.results ok
    if 12 < window.count false then ({ c with state := .hunt, run := 0, results := [] }, true)
    else ({ c with results := window }, false)

/-- The check at a RUNNING boundary (R138): the dominant entry's admit number and the base step are handed over. -/
def Route.check (r : Route) (number : BitVec 32) (step : Nat) : Route :=
  match r.checker with
  | none => r
  | some c =>
    match c.previous with
    | none => { r with checker := some { c with previous := some number } }
    | some prev =>
      let ok := decide ((number - prev).toNat ≤ checkLimit step)
      let res := c.apply ok
      { r with
        checker := some { res.1 with previous := some number }
        counters := if ok then r.counters
          else { r.counters with continuityErrors := sat16 r.counters.continuityErrors } }.raiseIf res.2 .continuity

/-- The checker summary word of a CHECK_SET reply (12). -/
def checkerWord (c : Option CheckerPart) : Word :=
  match c with
  | none => 0
  | some c => pack [⟨1, 0, 1⟩, ⟨c.state.code, 1, 1⟩, ⟨c.run, 2, 4⟩, ⟨c.errors, 8, 7⟩]

/-- A route's checker part after a CHECK_SET (R142). -/
def Route.setChecker (r : Route) (on : Bool) : Route :=
  { r with checker := if on then some (r.checker.getD CheckerPart.fresh) else none }

/-- The effect of CHECK_SET (R142). -/
def checkSet (args : List Word) (s : State) : State × Reply :=
  withHandle args s fun i =>
    let value := bits (arg args 1) 8 8
    if 2 ≤ value then refuse s .range
    else
      let r := (s.route i).setChecker (value == 1)
      (s.setRoute i r, Reply.ok [checkerWord r.checker])

/-- CHECK_SET (R142). -/
def execCheckSet (s : State) : Host.Outcome State Fault Refusal :=
  .next (take .checkSet checkSet s)

end Sys2Proof.Machine
end

