-- ==== Sys2Proof/Machine/Routes.lean ====
section
/-! DEFINITION. The Route Manager (R53 to R76): opening, altering, holding, releasing, closing, trimming and reading
routes, and what feed loss and recovery do to them. -/

namespace Sys2Proof.Machine

/-! ## Opening (R58, R59) -/

/-- The lowest-indexed FREE record (R59). -/
def State.freeRecord (s : State) : Option RouteId :=
  (List.finRange 16).find? (fun i => (s.route i).state == .free)

/-- The feed a checked setting names. -/
def OpenRequest.feedId (q : OpenRequest) : FeedId := Fin.ofNat 8 q.feed

/-- The output port a checked setting names. -/
def OpenRequest.portId (q : OpenRequest) : PortId := Fin.ofNat 8 q.port

/-- The profile a checked setting names. -/
def OpenRequest.profileId (q : OpenRequest) : ProfileId := Fin.ofNat 32 q.profile

/-- The standard of the timeline a port is assigned to (R16). -/
def State.portStandard (s : State) (p : PortId) : Standard :=
  (s.timeline (s.portTimeline p)).standard

/-- Whether the modes and map entries of a setting are values of a route record (open check 11). -/
def OpenRequest.modesValid (q : OpenRequest) : Bool :=
  (cadenceOfCode q.cadence).isSome && (timecodeModeOfCode q.timecode).isSome && (unmappedOfCode q.unmapped).isSome
    && q.mapValid

/-- The checks of ROUTE_OPEN in their order (R58). -/
def openStatus (s : State) (q : OpenRequest) : Status :=
  if s.freeRecord = none then .noRoute
  else if 8 ≤ q.feed then .range
  else
    match (s.feed q.feedId).standard with
    | none => .feedUnconfigured
    | some st =>
      if 8 ≤ q.port then .range
      else if (s.routeOnPort q.portId).isSome then .portTaken
      else if st.family ≠ (s.portStandard q.portId).family then .family
      else if 32 ≤ q.profile then .range
      else if s.profile q.profileId = .empty then .profileEmpty
      else if !q.mapFits then .range
      else if q.mapRepeats then .mapDuplicate
      else if !q.modesValid then .range
      else .ok

/-- A record opened with a setting (R59): every field is set afresh, the generation is kept. -/
def openedRoute (generation : Fin 16) (q : OpenRequest) (outStandard : Standard) : Route where
  generation := generation
  state := .priming
  feed := q.feedId
  port := q.portId
  outStandard := outStandard
  setting := q.setting
  window := []
  nextAdmit := 0
  phase := 0
  error := 0
  settled := false
  pair := none
  frozen := false
  snapshot := none
  lastDominant := none
  lapse := 0
  counters := RouteCounters.zero
  cadence := q.setting.cadence.freshPart
  checker := none
  events := 0
  picture := none

/-- A route opened in a record (R59): the feed's route count advances. -/
def State.openRoute (s : State) (i : RouteId) (q : OpenRequest) : State :=
  { s.setRoute i (openedRoute (s.route i).generation q (s.portStandard q.portId)) with
    feeds := tset s.feeds q.feedId
      { s.feed q.feedId with routeCount := (s.feed q.feedId).routeCount + 1 } }

/-- The reply of an accepted open (12, ROUTE_OPEN). -/
def openReply (s : State) (i : RouteId) (q : OpenRequest) : Reply :=
  Reply.ok [pack [⟨handleOf i (s.route i).generation, 0, 8⟩, ⟨i.val, 8, 4⟩, ⟨(s.portStandard q.portId).code, 16, 4⟩]]

/-- An open through its checks (R58, R59). -/
def tryOpen (q : OpenRequest) (s : State) : State × Reply :=
  match openStatus s q, s.freeRecord with
  | .ok, some i => (s.openRoute i q, openReply s i q)
  | status, _ => refuse s status

/-- The effect of ROUTE_OPEN (R58, R59). -/
def routeOpen (args : List Word) (s : State) : State × Reply :=
  tryOpen (requestOfWords args) s

/-- The effect of PRESET_OPEN (R169). -/
def presetOpen (args : List Word) (s : State) : State × Reply :=
  let n := bits (arg args 1) 0 8
  if 16 ≤ n then refuse s .range
  else
    match tget s.presets (Fin.ofNat 16 n) with
    | none => refuse s .range
    | some p => tryOpen p.request s

/-! ## Altering (R72 to R74) -/

/-- Which setting fields a ROUTE_ALTER carries: the present flags from bit 8 of its word 1 (12, ROUTE_ALTER). -/
structure AlterFlags where
  feed        : Bool
  port        : Bool
  profile     : Bool
  trim        : Bool
  cadence     : Bool
  timecode    : Bool
  holdLimit   : Bool
  retireLimit : Bool
  mapList     : Bool
  unmapped    : Bool
  deriving DecidableEq, Repr

/-- The present flags of a ROUTE_ALTER. -/
def alterFlags (w : Word) : AlterFlags where
  feed := bit w 8
  port := bit w 9
  profile := bit w 10
  trim := bit w 11
  cadence := bit w 12
  timecode := bit w 13
  holdLimit := bit w 14
  retireLimit := bit w 15
  mapList := bit w 16
  unmapped := bit w 17

/-- Whether the present modes and map entries of a ROUTE_ALTER are values of a route record (alter check 7). -/
def alterValid (p : AlterFlags) (q : OpenRequest) : Bool :=
  (!p.cadence || (cadenceOfCode q.cadence).isSome) && (!p.timecode || (timecodeModeOfCode q.timecode).isSome)
    && (!p.unmapped || (unmappedOfCode q.unmapped).isSome) && (!p.mapList || q.mapValid)

/-- The checks of ROUTE_ALTER after its handle's (R72). -/
def alterStatus (s : State) (p : AlterFlags) (q : OpenRequest) : Status :=
  if p.feed || p.port then .fixed
  else if p.profile && decide (32 ≤ q.profile) then .range
  else if p.profile && s.profile q.profileId == .empty then .profileEmpty
  else if p.mapList && !q.mapFits then .range
  else if p.mapList && q.mapRepeats then .mapDuplicate
  else if !alterValid p q then .range
  else .ok

/-- A setting with the present fields replaced (R72, R73). -/
def alterSetting (old : RouteSetting) (p : AlterFlags) (q : OpenRequest) : RouteSetting where
  profile := if p.profile then q.setting.profile else old.profile
  trim := if p.trim then q.setting.trim else old.trim
  cadence := if p.cadence then q.setting.cadence else old.cadence
  timecode := if p.timecode then q.setting.timecode else old.timecode
  holdLimit := if p.holdLimit then q.setting.holdLimit else old.holdLimit
  retireLimit := if p.retireLimit then q.setting.retireLimit else old.retireLimit
  mapList := if p.mapList then q.setting.mapList else old.mapList
  unmapped := if p.unmapped then q.setting.unmapped else old.unmapped

/-- The cadence part after a change of the cadence mode (R73): an unchanged mode leaves it as it is. -/
def alterCadence (old new : CadenceMode) (part : Option CadencePart) : Option CadencePart :=
  if old = new then part else new.freshPart

/-- A route with an altered setting (R73). -/
def Route.alter (r : Route) (p : AlterFlags) (q : OpenRequest) : Route :=
  { r with
    setting := alterSetting r.setting p q
    cadence := alterCadence r.setting.cadence (alterSetting r.setting p q).cadence r.cadence }

/-- The effect of ROUTE_ALTER (R72, R73). -/
def routeAlter (args : List Word) (s : State) : State × Reply :=
  withHandle args s fun i =>
    let p := alterFlags (arg args 1)
    let q := requestOfWords (args.drop 1)
    match alterStatus s p q with
    | .ok =>
      let r := (s.route i).alter p q
      (s.setRoute i r, Reply.ok (settingWords r ++ mapWords r.setting.mapList))
    | status => refuse s status

/-- A trim moved by a step, kept in 0 to 99 (R74). -/
def stepTrim (trim : Nat) (step : Int) : Nat :=
  (max 0 (min 99 ((trim : Int) + step))).toNat

/-- The effect of ROUTE_TRIM (R74). -/
def routeTrim (args : List Word) (s : State) : State × Reply :=
  withHandle args s fun i =>
    let step := signed8 (bits (arg args 1) 8 8)
    if step < -99 ∨ 99 < step then refuse s .range
    else
      let r := s.route i
      let trim := stepTrim r.setting.trim step
      (s.setRoute i { r with setting := { r.setting with trim := trim } }, Reply.ok [pack [⟨trim, 0, 8⟩]])

/-! ## Flushing, starving and recovering (R65 to R67) -/

/-- The slots a window holds. -/
def windowSlots (w : List WindowEntry) : List SlotId := w.map WindowEntry.slot

/-- A route's record after a flush (R65). -/
def Route.flush (r : Route) : Route :=
  { r with window := [], settled := false, cadence := flushCadence r.cadence, checker := flushChecker r.checker }

/-- The Slot Table after a route's window is emptied (R47). -/
def dropWindow (r : Route) (slots : SlotTable) : SlotTable :=
  SlotTable.unholdAll slots (windowSlots r.window)

/-- A route put into STARVED (R66, R69): flushed, its current pair frozen, its lapse 0, event STARVED raised. -/
def Route.starve (r : Route) : Route :=
  { r.flush with state := .starved, frozen := r.pair.isSome, lapse := 0 }.raise .starved

/-- What a feed's entry to LOST or MISMATCH does to a route record (R66). A route opened on a feed in MISMATCH is in
PRIMING when the feed goes on to LOST by silence: the table of R66 starves it, while R60 has no entry follow the open and
R66's text has a second entry find no PRIMING route; the model follows the table (DESIGN CHOICE, log 34). -/
def Route.feedLost (f : FeedId) (_ : RouteId) (r : Route) (slots : SlotTable) : Route × SlotTable :=
  if r.feed = f ∧ (r.state = .priming ∨ r.state = .running) then (r.starve, dropWindow r slots) else (r, slots)

/-- A STARVED or LAPSED route returned to PRIMING (R67): φ and e become 0. -/
def Route.recover (r : Route) : Route :=
  { r.flush with state := .priming, phase := 0, error := 0 }

/-- What a feed's entry to ACQUIRE from LOST or MISMATCH does to a route record (R67). -/
def Route.feedBack (f : FeedId) (_ : RouteId) (r : Route) (slots : SlotTable) : Route × SlotTable :=
  if r.feed = f ∧ (r.state = .starved ∨ r.state = .lapsed) then (r.recover, dropWindow r slots)
  else if r.feed = f ∧ r.state = .held then (r.flush, dropWindow r slots)
  else (r, slots)

/-- Whether a state is one of the two that starve routes. -/
def FeedState.gone : FeedState → Bool
  | .lost | .mismatch => true
  | .unconfigured | .empty | .acquire | .locked => false

/-- A change of a feed's state handed to the Route Manager (R31, R66, R67). -/
def State.feedChanged (s : State) (f : FeedId) (old new : FeedState) : State :=
  if old = new then s
  else if new.gone then s.overRoutes (Route.feedLost f)
  else if new = .acquire ∧ old.gone then s.overRoutes (Route.feedBack f)
  else s

/-! ## Hold and release (R68, R69) -/

/-- A route put into HELD (R68): its current pair, if any, is the frozen pair; a checker part is put into HUNT when the
route leaves RUNNING (R141). -/
def Route.hold (r : Route) : Route :=
  match r.state with
  | .running => { r with state := .held, frozen := r.pair.isSome, checker := flushChecker r.checker }
  | .priming => { r with state := .held }
  | .starved => { r with state := .held }
  | .lapsed => { r with state := .held }
  | .held => r
  | .free => r
  | .closing => r

/-- The word of a reply that carries a route's state. -/
def stateWord (st : RouteState) : Word := pack [⟨st.code, 0, 3⟩]

/-- The effect of ROUTE_HOLD (R68). -/
def routeHold (args : List Word) (s : State) : State × Reply :=
  withHandle args s fun i =>
    let r := (s.route i).hold
    (s.setRoute i r, Reply.ok [stateWord r.state])

/-- A route released (R69), with the Slot Table: by the state of its feed and by its window. -/
def Route.release (r : Route) (feedState : FeedState) (slots : SlotTable) : Route × SlotTable :=
  if r.state ≠ .held then (r, slots)
  else if feedState.gone then (r.starve, dropWindow r slots)
  else if 2 ≤ r.window.length then ({ r with state := .running }, slots)
  else ({ r with state := .priming }, slots)

/-- The effect of ROUTE_RELEASE (R69). -/
def routeRelease (args : List Word) (s : State) : State × Reply :=
  withHandle args s fun i =>
    let res := (s.route i).release (s.feed (s.route i).feed).state s.slots
    ({ s.setRoute i res.1 with slots := res.2 }, Reply.ok [stateWord res.1.state])

/-! ## Closing and retiring (R64, R70, R71) -/

/-- A record that leaves the live states (R64, R70): the generation advances, the window is emptied, the parts and the
pending events go. -/
def Route.endLife (r : Route) (state : RouteState) : Route :=
  { r with state := state, generation := r.generation + 1, window := [], cadence := none, checker := none,
           frozen := false, events := 0 }

/-- The state a close enters: CLOSING with a pair, FREE without one (R70). -/
def Route.closeState (r : Route) : RouteState :=
  if r.pair.isSome then .closing else .free

/-- A feed with one live route less (R57). -/
def Feed.dropRoute (f : Feed) : Feed := { f with routeCount := f.routeCount - 1 }

/-- The effect of ROUTE_CLOSE (R70). -/
def routeClose (args : List Word) (s : State) : State × Reply :=
  withHandle args s fun i =>
    let r := s.route i
    ({ s.setRoute i (r.endLife r.closeState) with
        slots := dropWindow r s.slots
        feeds := tset s.feeds r.feed (s.feed r.feed).dropRoute }, Reply.ok [stateWord r.closeState])

/-- A record FREE without its pair and its picture in progress. Its other fields, which R53 says are not read, stay as they
were (DESIGN CHOICE, log 24). -/
def Route.vacate (r : Route) : Route :=
  { r with state := .free, pair := none, picture := none }

/-- An automatic retirement (R64). -/
def State.retire (s : State) (i : RouteId) : State :=
  let r := s.route i
  { s.setRoute i (r.endLife .free).vacate with
    slots := (dropWindow r s.slots).releasePair (pairList r.pair)
    feeds := tset s.feeds r.feed (s.feed r.feed).dropRoute
    device := s.device.retire i }

/-! ## Reading (R75, R136) -/

/-- The three words of a window place in a ROUTE_READ reply. -/
def windowWords (e : Option WindowEntry) : List Word :=
  match e with
  | some e => [pack [⟨e.slot.val, 0, 7⟩, ⟨1, 7, 1⟩], e.seq, e.admitNumber]
  | none => [0, 0, 0]

/-- The slot of a pair at position A. -/
def PairSlots.atA : PairSlots → Option SlotId
  | .onlyA a => some a
  | .both a _ => some a
  | .onlyB _ => none

/-- The slot of a pair at position B. -/
def PairSlots.atB : PairSlots → Option SlotId
  | .onlyA _ => none
  | .both _ b => some b
  | .onlyB b => some b

/-- Words 17 and 18 of a ROUTE_READ reply: the window count, the flags and the output pair. -/
def pairWords (r : Route) : List Word :=
  let count := (pairList r.pair).length
  let w := (r.pair.map OutputPair.weight).getD 0
  let shaped := (r.pair.map OutputPair.shaped).getD 0
  [pack [⟨r.window.length, 0, 3⟩, ⟨flag r.settled, 4, 1⟩, ⟨flag r.frozen, 5, 1⟩, ⟨count, 8, 2⟩, ⟨w, 16, 7⟩,
      ⟨shaped, 24, 7⟩],
   pack [⟨slotCode (r.pair.bind (fun p => p.slots.atA)), 0, 7⟩, ⟨slotCode (r.pair.bind (fun p => p.slots.atB)), 8, 7⟩]]

/-- Words 22 to 26 of a ROUTE_READ reply: the last output snapshot and the last dominant sequence number. -/
def snapshotWords (r : Route) : List Word :=
  [pack [⟨flag r.snapshot.isSome, 0, 1⟩, ⟨(r.snapshot.map Snapshot.weight).getD 0, 8, 7⟩,
      ⟨flag r.lastDominant.isSome, 16, 1⟩],
   (r.snapshot.map Snapshot.seqA).getD 0, (r.snapshot.map Snapshot.seqB).getD 0,
   (r.snapshot.map Snapshot.dominant).getD 0, r.lastDominant.getD 0]

/-- Word 31 of a ROUTE_READ reply: the cadence summary and the checker summary. -/
def partsWord (r : Route) : Word :=
  pack [⟨flag r.cadence.isSome, 0, 1⟩, ⟨flag r.lock.isSome, 1, 1⟩,
    ⟨(r.lock.map (fun l => l.pattern.code)).getD 0, 2, 2⟩, ⟨(r.lock.map CadenceLock.position).getD 0, 4, 3⟩,
    ⟨flag r.checker.isSome, 16, 1⟩, ⟨(r.checker.map (fun c => c.state.code)).getD 0, 17, 1⟩,
    ⟨(r.checker.map CheckerPart.run).getD 0, 18, 4⟩, ⟨(r.checker.map CheckerPart.errors).getD 0, 24, 7⟩]

/-- The words of a ROUTE_READ reply after its header (R75, R136; 12, ROUTE_READ). -/
def routeReadWords (i : RouteId) (r : Route) : List Word :=
  [pack [⟨handleOf i r.generation, 0, 8⟩, ⟨i.val, 8, 4⟩, ⟨r.state.code, 12, 3⟩, ⟨r.outStandard.code, 16, 4⟩,
      ⟨r.events.toNat, 24, 8⟩]]
    ++ settingWords r
    ++ (List.range 4).flatMap (fun n => windowWords r.window[n]?)
    ++ pairWords r
    ++ [r.nextAdmit, BitVec.ofInt 32 r.phase, BitVec.ofInt 32 r.error]
    ++ snapshotWords r
    ++ [pack [⟨r.lapse, 0, 16⟩, ⟨r.counters.continuityErrors, 16, 16⟩],
        r.counters.outputs,
        pack [⟨r.counters.late, 0, 16⟩, ⟨r.counters.early, 16, 16⟩],
        pack [⟨r.counters.clips, 0, 16⟩, ⟨r.counters.cadenceBreaks, 16, 16⟩],
        partsWord r]
    ++ mapWords r.setting.mapList

/-- The effect of ROUTE_READ (R75): the clear flag clears the six counters after the reply has their values. -/
def routeRead (args : List Word) (s : State) : State × Reply :=
  withHandle args s fun i =>
    (if bit (arg args 1) 8 then s.setRoute i { s.route i with counters := RouteCounters.zero } else s,
      Reply.ok (routeReadWords i (s.route i)))

/-! ## The commands -/

/-- ROUTE_OPEN (R58, R59). -/
def execRouteOpen (s : State) : Host.Outcome State Fault Refusal :=
  .next (take .routeOpen routeOpen s)

/-- ROUTE_ALTER (R72, R73). -/
def execRouteAlter (s : State) : Host.Outcome State Fault Refusal :=
  .next (take .routeAlter routeAlter s)

/-- ROUTE_CLOSE (R70). -/
def execRouteClose (s : State) : Host.Outcome State Fault Refusal :=
  .next (take .routeClose routeClose s)

/-- ROUTE_READ (R75). -/
def execRouteRead (s : State) : Host.Outcome State Fault Refusal :=
  .next (take .routeRead routeRead s)

/-- ROUTE_HOLD (R68). -/
def execRouteHold (s : State) : Host.Outcome State Fault Refusal :=
  .next (take .routeHold routeHold s)

/-- ROUTE_RELEASE (R69). -/
def execRouteRelease (s : State) : Host.Outcome State Fault Refusal :=
  .next (take .routeRelease routeRelease s)

/-- ROUTE_TRIM (R74). -/
def execRouteTrim (s : State) : Host.Outcome State Fault Refusal :=
  .next (take .routeTrim routeTrim s)

/-- PRESET_OPEN (R169). -/
def execPresetOpen (s : State) : Host.Outcome State Fault Refusal :=
  .next (take .presetOpen presetOpen s)

end Sys2Proof.Machine
end

