-- ==== Sys2Proof/Machine/Feeds.lean ====
section
/-! DEFINITION. The feed ports and the Feed Tracker (R18 to R37), and the storing of pictures by the Slot Controller
(R40 to R46): starts, lines, packets, timecodes, ends, silence, FEED_SET, FEED_READ and TRACK_SET. -/

namespace Sys2Proof.Machine

/-! ## Views and tests of the feed record -/

/-- The tick at which the silence timer expires, while it runs (R22). -/
def Feed.silenceExpiryTick (f : Feed) : Option Tick :=
  match f.standard, f.lastStart with
  | some st, some t => some (t + BitVec.ofNat 32 (2 * st.nominal))
  | _, _ => none

/-- Whether a measurement is a runt's (R23). -/
def isRunt (st : Standard) (m : Tick) : Bool :=
  decide (m.toNat < 3 * st.nominal / 4)

/-- Whether a measurement is in window (R27). -/
def inWindow (st : Standard) (m : Tick) : Bool :=
  decide (st.nominal - st.nominal / 16 ≤ m.toNat) && decide (m.toNat ≤ st.nominal + st.nominal / 16)

/-- The verdicts (R27). -/
inductive Verdict where
  | good | bad | neutral
  deriving DecidableEq, Repr

/-- The verdict of a picture (R27). -/
def verdictOf (st : Standard) (lineCount : Nat) (measurement : Option Tick) : Verdict :=
  if lineCount ≠ st.lines then .bad
  else
    match measurement with
    | none => .neutral
    | some m => if inWindow st m then .good else .bad

/-! ## The comparator (R21) -/

/-- The active line a grid row is taken from (R21). -/
def gridLine (st : Standard) (i : Nat) : Nat := (2 * i + 1) * st.lines / 64

/-- The sample a grid column is taken from (R21). -/
def gridColumn (st : Standard) (j : Nat) : Nat := (2 * j + 1) * st.width / 64

/-- The 32 luma samples a grid row takes from a line (R21). -/
def gridRow (st : Standard) (pels : List Pel) : List Sample :=
  (List.range 32).map (fun j => (pels.getD (gridColumn st j) blackPel).luma)

/-- A picture's grid: rows that its lines did not reach hold 64 (R21). -/
def paddedGrid (rows : Grid) : Grid :=
  rows ++ List.replicate (32 - rows.length) (List.replicate 32 64)

/-- The absolute difference of two samples. -/
def sampleDistance (a b : Sample) : Nat :=
  max a.toNat b.toNat - min a.toNat b.toNat

/-- The sum of the absolute differences of two grids (R21). -/
def gridDistance (a b : Grid) : Nat :=
  (List.zipWith sampleDistance a.flatten b.flatten).sum

/-- The grid a picture is compared with, if the reference list has it (R21). -/
def referenceGrid (st : Standard) (refs : List Grid) : Option Grid :=
  if st.interlaced then (if refs.length = 2 then refs.head? else none) else refs.getLast?

/-- The match flag (R21). -/
def matchFlag (st : Standard) (threshold : BitVec 16) (refs : List Grid) (grid : Grid) (lineCount : Nat) : Bool :=
  match referenceGrid st refs with
  | none => false
  | some g => decide (lineCount = st.lines) && decide (gridDistance g grid ≤ threshold.toNat)

/-- A grid appended to the reference list, which keeps two (R21). -/
def appendReference (refs : List Grid) (grid : Grid) : List Grid :=
  if refs.length < 2 then refs ++ [grid] else refs.drop 1 ++ [grid]

/-! ## The state machine and the filter (R29 to R32) -/

/-- The feed with a standard's nominal period as its E (R22). -/
def Feed.atNominal (f : Feed) (st : Standard) : Feed :=
  { f with period := st.nominalPeriod }

/-- A verdict in ACQUIRE (R29). -/
def Feed.acquireVerdict (f : Feed) (v : Verdict) : Feed :=
  match v with
  | .good =>
    if 4 ≤ f.goodRun + 1 then { f with state := .locked, goodRun := 4, rejectRun := 0, badRun := 0 }
    else { f with goodRun := f.goodRun + 1, badRun := 0 }
  | .bad =>
    if 8 ≤ f.badRun + 1 then { f with state := .mismatch, goodRun := 0, badRun := 8 }
    else { f with goodRun := 0, badRun := f.badRun + 1 }
  | .neutral => f

/-- A verdict in LOCKED (R30). -/
def Feed.lockedVerdict (f : Feed) (v : Verdict) : Feed :=
  match v with
  | .good => { f with rejectRun := 0, badRun := 0 }
  | .bad =>
    if 3 ≤ f.rejectRun + 1 then
      { f with state := .acquire, goodRun := 0, rejectRun := 0, badRun := min 8 (f.badRun + 1),
               rejects := sat16 f.rejects }
    else
      { f with rejectRun := f.rejectRun + 1, badRun := min 8 (f.badRun + 1), rejects := sat16 f.rejects }
  | .neutral => f

/-- A verdict in MISMATCH (R31). A good picture puts E at nominal whatever the freeze flag is: R31 says so without the
flag, R32 has E keep its value with freeze on, and no rule says which holds here (DESIGN CHOICE, log 30). -/
def Feed.mismatchVerdict (f : Feed) (st : Standard) (v : Verdict) : Feed :=
  match v with
  | .good => { f.atNominal st with state := .acquire, goodRun := 1, rejectRun := 0, badRun := 0 }
  | .bad => f
  | .neutral => f

/-- Event STATE when the state is not what it was (R31). -/
def Feed.raiseChange (f : Feed) (old : FeedState) : Feed :=
  if f.state = old then f else f.raise .state

/-- A verdict applied in the state machine (R29 to R31). -/
def Feed.applyVerdict (f : Feed) (st : Standard) (v : Verdict) : Feed :=
  Feed.raiseChange
    (match f.state with
     | .acquire => f.acquireVerdict v
     | .locked => f.lockedVerdict v
     | .mismatch => f.mismatchVerdict st v
     | .unconfigured => f
     | .empty => f
     | .lost => f)
    f.state

/-- E moved toward a measurement by a constant K (R32). -/
def trackedPeriod (e k : Nat) (m : Tick) : Nat :=
  ((e : Int) + ((256 * m.toNat : Int) - (e : Int)).tdiv (k : Int)).toNat

/-- Whether a picture's measurement moves E (R32). -/
def Feed.tracks (f : Feed) (v : Verdict) : Bool :=
  v == .good && (f.state == .acquire || f.state == .locked) && f.profile == .track && !f.freeze

/-- The feed's E after a picture end (R32). -/
def Feed.filter (f : Feed) (k : Nat) (v : Verdict) (measurement : Option Tick) : Feed :=
  match measurement with
  | some m => if f.tracks v then { f with period := trackedPeriod f.period k m } else f
  | none => f

/-- The tracking constant K of a feed's track slot (R33). -/
def State.trackConstant (s : State) (f : Feed) : Nat := tget s.trackK f.trackSlot

/-! ## Writing slots (R41 to R45) -/

/-- A damaged, truncated or abandoned picture (R27, R37). -/
def Feed.damage (f : Feed) : Feed :=
  { f with damaged := sat16 f.damaged }.raise .damaged

/-- A slot made FREE with both counts 0 (R44). Its other fields stay as they were: R38 says only that they are not read
until the next allocation sets them (DESIGN CHOICE, log 32). -/
def SlotTable.release (t : SlotTable) (i : SlotId) : SlotTable :=
  tset t i { tget t i with state := .free, hold := 0, pin := 0 }

/-- The Slot Table after a feed's writing slot, if any, is handed back (R44). -/
def SlotTable.handBack (t : SlotTable) (writing : Option SlotId) : SlotTable :=
  match writing with
  | some i => SlotTable.release t i
  | none => t

/-- The picture in flight abandoned, or truncated before its verdict is applied: counted as damaged, its writing slot
handed back (R25, R26, R35). -/
def State.abandon (s : State) (f : FeedId) : State :=
  if (s.feed f).inFlight then
    { s.setFeed f { (s.feed f).damage with inFlight := false, measurement := none, writing := none } with
      slots := SlotTable.handBack s.slots (s.feed f).writing }
  else s

/-- Whether something on a feed takes pictures (R41). -/
def State.hasTaker (s : State) (f : FeedId) : Bool :=
  (List.finRange 16).any (fun i => (s.route i).state.taking && (s.route i).feed == f)
    || (match s.monitor.view with
        | .feed g _ => g == f
        | .port _ => false
        | .off => false)

/-- Whether a picture that starts is stored (R41). -/
def State.storesStart (s : State) (f : FeedId) : Bool :=
  ((s.feed f).state == .acquire || (s.feed f).state == .locked) && s.hasTaker f

/-- The lowest-numbered FREE slot of a feed (R42). -/
def State.freeSlot (s : State) (f : FeedId) : Option SlotId :=
  (feedSlots f).find? (fun i => (s.slot i).state == .free)

/-- A slot allocated to a picture (R42, R38). Its parity is the one its completion will give. -/
def allocatedSlot (old : Slot) (seq : BitVec 32) (st : Standard) (parity : Parity) : Slot :=
  { old with state := .writing, seq := seq, standard := some st, parity := parity, timecode := none, packets := [],
             hold := 0, pin := 0 }

/-- The storing decision at an accepted start (R41 to R43). -/
def State.store (s : State) (f : FeedId) (st : Standard) (seq : BitVec 32) (parity : Parity) : State :=
  if s.storesStart f then
    match s.freeSlot f with
    | some i =>
      { s.setFeed f { s.feed f with writing := some i } with
        slots := tset s.slots i (allocatedSlot (s.slot i) seq st parity) }
    | none => s.setFeed f ({ s.feed f with overruns := sat16 (s.feed f).overruns }.raise .overrun)
  else s

/-! ## The start of a picture (R23 to R25) -/

/-- A picture in flight truncated by an accepted start (R24 step 1, R25). -/
def State.truncate (s : State) (f : FeedId) (st : Standard) : State :=
  if (s.feed f).inFlight then (s.abandon f).setFeed f (((s.abandon f).feed f).applyVerdict st .bad) else s

/-- Step 2 of an accepted start (R24): EMPTY and LOST enter ACQUIRE. -/
def Feed.enterAcquire (f : Feed) (st : Standard) : Feed :=
  match f.state with
  | .empty => { f.atNominal st with state := .acquire, goodRun := 0, rejectRun := 0, badRun := 0 }.raise .state
  | .lost => { f with state := .acquire, goodRun := 0, rejectRun := 0, badRun := 0 }.raise .state
  | .unconfigured => f
  | .acquire => f
  | .locked => f
  | .mismatch => f

/-- Steps 3 to 6 of an accepted start (R24). -/
def Feed.takeStart (f : Feed) (tick : Tick) (measurement : Option Tick) : Feed :=
  { f with
    nextSeq := f.nextSeq + 1
    measurement := measurement
    lastStart := some tick
    inFlight := true
    writing := none }

/-- A feed port that begins a picture (R24 step 6). -/
def FeedPort.begin (fp : FeedPort) (parity : Parity) : FeedPort :=
  { fp with framing := .accepted, parity := parity, lineCount := 0, rows := [], timecode := none, packets := [] }

/-- The measurement of a start (R23). -/
def Feed.measure (f : Feed) (tick : Tick) : Option Tick :=
  f.lastStart.map (fun last => tick - last)

/-- Whether a start is a runt (R23). -/
def Feed.runtStart (f : Feed) (st : Standard) (tick : Tick) : Bool :=
  (f.measure tick).any (isRunt st)

/-- A runt (R23): the port's framing belongs to it (R19), and nothing else of the picture in flight changes. -/
def State.runt (s : State) (f : FeedId) : State :=
  (s.setFeed f ({ s.feed f with runts := sat16 (s.feed f).runts }.raise .runt)).setFeedPort f
    { s.feedPort f with framing := .runt }

/-- Steps 1 to 6 of an accepted start (R24). -/
def State.startPicture (s : State) (f : FeedId) (st : Standard) (tick : Tick) (parity : Parity) : State :=
  let s1 := s.truncate f st
  (s1.setFeed f (((s1.feed f).enterAcquire st).takeStart tick ((s.feed f).measure tick))).setFeedPort f
    ((s1.feedPort f).begin parity)

/-- An accepted start (R24). A change of the feed's state reaches the Route Manager after the start (R67). -/
def State.acceptStart (s : State) (f : FeedId) (st : Standard) (tick : Tick) (parity : Parity) : State :=
  let s1 := (s.startPicture f st tick parity).store f st (s.feed f).nextSeq parity
  s1.feedChanged f (s.feed f).state (s1.feed f).state

/-- A picture start that a feed port reports (R18, R23). -/
def State.pictureStart (s : State) (f : FeedId) (tick : Tick) (bottom : Bool) : State :=
  match (s.feed f).standard with
  | none => s
  | some st =>
    if (s.feed f).runtStart st tick then s.runt f else s.acceptStart f st tick (st.startParity bottom)

/-! ## Lines, packets and timecodes (R19 to R21, R40) -/

/-- Whether a port's framing belongs to the picture in flight: its lines, packets, timecode and end are the
picture's (R18, R19). -/
def State.framed (s : State) (f : FeedId) : Bool :=
  (s.feed f).inFlight && decide ((s.feedPort f).framing = .accepted)

/-- What a port keeps of an active line (R18, R21). -/
def FeedPort.line (fp : FeedPort) (st : Standard) (pels : List Pel) : FeedPort :=
  { fp with
    lineCount := fp.lineCount + 1
    rows := if fp.rows.length < 32 ∧ fp.lineCount = gridLine st fp.rows.length then fp.rows ++ [gridRow st pels]
      else fp.rows }

/-- The DRAM after line `k` of a picture is written into its slot's region (R40): lines beyond the standard's are not
written. -/
def storeLine (dram : List Host.Cell) (writing : Option SlotId) (st : Standard) (k : Nat) (pels : List Pel) :
    List Host.Cell :=
  match writing with
  | some i =>
    if k < st.lines then Memory.write dram (pelAddress i st.width k 0) (lineBytes (pels.take st.width)) else dram
  | none => dram

/-- An active line (R18, R21, R40). -/
def State.activeLine (s : State) (f : FeedId) (pels : List Pel) : State :=
  match (s.feed f).standard with
  | none => s
  | some st =>
    if s.framed f then
      { s.setFeedPort f ((s.feedPort f).line st pels) with
        dram := storeLine s.dram (s.feed f).writing st (s.feedPort f).lineCount pels }
    else s

/-- The ancillary list after a packet (R19): family 0 is dropped, and so is every packet past the sixteenth. -/
def appendPacket (packets : List Packet) (p : Packet) : List Packet :=
  if p.key.family = 0 ∨ 16 ≤ packets.length then packets else packets ++ [p]

/-- A packet that arrives (R19). -/
def State.packet (s : State) (f : FeedId) (p : Packet) : State :=
  if s.framed f then s.setFeedPort f { s.feedPort f with packets := appendPacket (s.feedPort f).packets p } else s

/-- A timecode value that arrives (R20): the first of a picture is kept. -/
def State.timecodeIn (s : State) (f : FeedId) (tc : Timecode) : State :=
  if s.framed f then
    s.setFeedPort f { s.feedPort f with timecode := some ((s.feedPort f).timecode.getD tc) }
  else s

/-- The timecode a picture's end hands on (R20): a value that is not valid is absent. -/
def handedTimecode (st : Standard) (tc : Option Timecode) : Option Timecode :=
  tc.filter st.validTimecode

/-! ## The end of a picture (R27, R28, R45, R46) -/

/-- The feed's record as a verdict counts the picture and clears it (R27). -/
def Feed.endPicture (f : Feed) (v : Verdict) (damaged : Bool) : Feed :=
  let g := if damaged then f.damage else f
  { g with
    pictures := if v = .good then g.pictures + 1 else g.pictures
    inFlight := false
    measurement := none
    writing := none }

/-- A completed slot (R45). -/
def completedSlot (old : Slot) (parity : Parity) (timecode : Option Timecode) (packets : List Packet) : Slot :=
  { old with state := .ready, parity := parity, timecode := timecode, packets := packets }

/-- The slot of a picture that ends: completed when the verdict is good, else handed back (R28, R44, R45). -/
def SlotTable.endWriting (t : SlotTable) (writing : Option SlotId) (v : Verdict) (st : Standard) (fp : FeedPort) :
    SlotTable :=
  match writing with
  | some i =>
    if v = .good then tset t i (completedSlot (tget t i) fp.parity (handedTimecode st fp.timecode) fp.packets)
    else SlotTable.release t i
  | none => t

/-- The completed slot that a picture end offers, if there is one (R46). -/
def offeredSlot (writing : Option SlotId) (v : Verdict) : Option SlotId :=
  if v = .good then writing else none

/-- The offer to the monitor (R144): it takes the slot as its latest and lets go of the one before. -/
def State.offerMonitor (s : State) (f : FeedId) (i : SlotId) : State :=
  match s.monitor.view with
  | .feed g _ =>
    if g = f then
      { s with
        monitor := { s.monitor with latest := some i }
        slots :=
          match s.monitor.latest with
          | some old => SlotTable.unhold (SlotTable.hold s.slots i) old
          | none => SlotTable.hold s.slots i }
    else s
  | .port _ => s
  | .off => s

/-- The offer to the monitor when a slot was completed. -/
def State.offerMonitorAny (s : State) (f : FeedId) (offer : Option SlotId) : State :=
  match offer with
  | some i => s.offerMonitor f i
  | none => s

/-- A picture end handed to a route (R28, R94, R78): in a taking state its detector takes the flag, and an offered slot
that the route wants is admitted. -/
def Route.pictureEnd (f : FeedId) (st : Standard) (seq : BitVec 32) (matched : Bool) (offer : Option SlotId)
    (_ : RouteId) (r : Route) (slots : SlotTable) : Route × SlotTable :=
  if r.feed = f ∧ r.state.taking then
    let res := r.cadenceStep st matched
    match offer, res.2 with
    | some i, true => res.1.admitPicture slots i seq
    | _, _ => (res.1, slots)
  else (r, slots)

/-- A slot that nothing kept is freed (R46). -/
def SlotTable.settleAny (t : SlotTable) (offer : Option SlotId) : SlotTable :=
  match offer with
  | some i => tset t i (tget t i).settle
  | none => t

/-- The sequence number of the picture in flight: the one before the feed's next (R24). -/
def Feed.flightSeq (f : Feed) : BitVec 32 := f.nextSeq - 1

/-- The first part of a picture end (R27, R28 step 1): the verdict is counted, the comparator's list takes the grid,
and the slot is completed or handed back. -/
def State.closePicture (s : State) (f : FeedId) (st : Standard) (v : Verdict) : State :=
  let fp := s.feedPort f
  { (s.setFeed f ((s.feed f).endPicture v (decide (fp.lineCount ≠ st.lines)))).setFeedPort f
      { fp with framing := .none, refs := appendReference fp.refs (paddedGrid fp.rows) } with
    slots := SlotTable.endWriting s.slots (s.feed f).writing v st fp }

/-- The offers of a picture end (R46, R28 step 2). -/
def State.offer (s : State) (f : FeedId) (st : Standard) (seq : BitVec 32) (matched : Bool)
    (offer : Option SlotId) : State :=
  (s.offerMonitorAny f offer).overRoutes (Route.pictureEnd f st seq matched offer)

/-- E and the feed's state after a verdict, handed to the Route Manager (R28 step 3, R29 to R32). -/
def State.judgeFeed (s : State) (f : FeedId) (st : Standard) (v : Verdict) (measurement : Option Tick) : State :=
  let old := s.feed f
  let new := (old.filter (s.trackConstant old) v measurement).applyVerdict st v
  (s.setFeed f new).feedChanged f old.state new.state

/-- A picture end that closes the picture in flight (R27, R28). -/
def State.endFlight (s : State) (f : FeedId) (st : Standard) : State :=
  let fr := s.feed f
  let fp := s.feedPort f
  let v := verdictOf st fp.lineCount fr.measurement
  let offered := offeredSlot fr.writing v
  let matched := matchFlag st fr.threshold fp.refs (paddedGrid fp.rows) fp.lineCount
  let s1 := ((s.closePicture f st v).offer f st fr.flightSeq matched offered).judgeFeed f st v fr.measurement
  { s1 with slots := SlotTable.settleAny s1.slots offered }

/-- A picture end that a feed port reports (R18, R27): an end with no picture in flight, or one that closes a runt,
only ends the port's framing. -/
def State.pictureEnd (s : State) (f : FeedId) : State :=
  match (s.feed f).standard with
  | none => s.setFeedPort f { s.feedPort f with framing := .none }
  | some st =>
    if s.framed f then s.endFlight f st else s.setFeedPort f { s.feedPort f with framing := .none }

/-! ## Silence (R26) -/

/-- Whether a silence timer can expire (R22, R26): it runs while the last start is present. -/
def Feed.silenceRuns (f : Feed) : Bool :=
  f.lastStart.isSome && (f.state == .acquire || f.state == .locked || f.state == .mismatch)

/-- The feed as it enters LOST (R26). -/
def Feed.goLost (f : Feed) : Feed :=
  { f with state := .lost, lastStart := none, measurement := none }.raise .state

/-- A silence expiry (R26). -/
def State.silenceExpiry (s : State) (f : FeedId) : State :=
  if (s.feed f).silenceRuns then
    let s1 := s.abandon f
    ((s1.setFeed f (s1.feed f).goLost).setFeedPort f { s1.feedPort f with refs := [] }).feedChanged f
      (s.feed f).state .lost
  else s

/-! ## FEED_SET, FEED_READ and TRACK_SET (R33 to R36) -/

/-- A whole feed setting (R35). `standard` 0 is none. -/
structure FeedRequest where
  feed      : Nat
  standard  : Nat
  profile   : Nat
  trackSlot : Nat
  freeze    : Bool
  threshold : BitVec 16
  deriving DecidableEq, Repr

/-- The feed a checked setting names. -/
def FeedRequest.feedId (q : FeedRequest) : FeedId := Fin.ofNat 8 q.feed

/-- The checks of FEED_SET in their order (R35). -/
def feedSetStatus (s : State) (q : FeedRequest) : Status :=
  if 8 ≤ q.feed then .range
  else if 11 ≤ q.standard then .range
  else if feedProfileOfCode q.profile = none then .range
  else if 5 ≤ q.trackSlot then .range
  else if standardOfCode q.standard ≠ (s.feed q.feedId).standard ∧ (s.feed q.feedId).routeCount ≠ 0 then .feedInUse
  else .ok

/-- The profile, track slot, freeze and threshold of a setting (R35). -/
def Feed.configure (f : Feed) (q : FeedRequest) : Feed :=
  { f with
    profile := (feedProfileOfCode q.profile).getD .track
    trackSlot := Fin.ofNat 5 q.trackSlot
    freeze := q.freeze
    threshold := q.threshold }

/-- A profile of NOMINAL set on an unchanged standard (R35). -/
def Feed.pinNominal (f : Feed) : Feed :=
  match f.profile, f.standard with
  | .nominal, some st => f.atNominal st
  | .nominal, none => { f with period := 0 }
  | .track, _ => f

/-- The restart of a feed whose standard changes (R35), its picture in flight abandoned already. -/
def Feed.restart (f : Feed) (st : Option Standard) : Feed :=
  Feed.raiseChange
    { f with
      standard := st
      state := if st.isSome then .empty else .unconfigured
      period := (st.map Standard.nominalPeriod).getD 0
      lastStart := none
      measurement := none
      goodRun := 0
      rejectRun := 0
      badRun := 0 }
    f.state

/-- An accepted FEED_SET (R35). Its changes of state are none that move routes (R31). -/
def State.applyFeedSet (s : State) (q : FeedRequest) : State :=
  let f := q.feedId
  if standardOfCode q.standard = (s.feed f).standard then s.setFeed f ((s.feed f).configure q).pinNominal
  else
    let s1 := s.abandon f
    (s1.setFeed f (((s1.feed f).configure q).restart (standardOfCode q.standard))).setFeedPort f
      { s1.feedPort f with refs := [] }

/-- A FEED_SET through its checks (R35). -/
def tryFeedSet (q : FeedRequest) (s : State) : State × Status :=
  if feedSetStatus s q = .ok then (s.applyFeedSet q, .ok) else (s, feedSetStatus s q)

/-- The setting in a FEED_SET's words (12, FEED_SET). -/
def feedRequestOfWords (args : List Word) : FeedRequest where
  feed := bits (arg args 1) 0 8
  standard := bits (arg args 2) 0 8
  profile := bits (arg args 2) 8 2
  trackSlot := bits (arg args 2) 12 4
  freeze := bit (arg args 2) 10
  threshold := BitVec.ofNat 16 (bits (arg args 3) 0 16)

/-- The words of an accepted FEED_SET's reply. -/
def feedSetWords (f : Feed) : List Word :=
  [pack [⟨f.state.code, 0, 8⟩], BitVec.ofNat 32 f.period]

/-- The effect of FEED_SET (R35). -/
def feedSet (args : List Word) (s : State) : State × Reply :=
  let q := feedRequestOfWords args
  let res := tryFeedSet q s
  (res.1, match res.2 with
    | .ok => Reply.ok (feedSetWords (res.1.feed q.feedId))
    | status => Reply.refusal status)

/-- The rate of a feed in millihertz (R34). -/
def Feed.rate (f : Feed) : Nat :=
  if f.standard.isSome then (6912000000000 + f.period / 2) / f.period else 0

/-- The words of a FEED_READ reply (R36; 12). -/
def feedReadWords (f : Feed) (k : Nat) : List Word :=
  [pack [⟨(f.standard.map Standard.code).getD 0, 0, 8⟩, ⟨f.profile.code, 8, 2⟩, ⟨flag f.freeze, 10, 1⟩,
      ⟨f.trackSlot.val, 12, 4⟩],
   pack [⟨k, 0, 16⟩, ⟨f.threshold.toNat, 16, 16⟩],
   pack [⟨f.state.code, 0, 3⟩, ⟨flag f.lastStart.isSome, 4, 1⟩, ⟨flag f.measurement.isSome, 5, 1⟩,
      ⟨f.events.toNat, 8, 4⟩],
   BitVec.ofNat 32 f.period, BitVec.ofNat 32 f.rate, f.lastStart.getD 0, f.measurement.getD 0,
   pack [⟨f.goodRun, 0, 3⟩, ⟨f.rejectRun, 4, 2⟩, ⟨f.badRun, 8, 4⟩, ⟨f.routeCount, 16, 5⟩],
   f.nextSeq, f.pictures,
   pack [⟨f.runts, 0, 16⟩, ⟨f.rejects, 16, 16⟩],
   pack [⟨f.damaged, 0, 16⟩, ⟨f.overruns, 16, 16⟩]]

/-- The five counters cleared (R36). -/
def Feed.clearCounters (f : Feed) : Feed :=
  { f with pictures := 0, runts := 0, rejects := 0, damaged := 0, overruns := 0 }

/-- The effect of FEED_READ (R36): the clear flag acts after the reply has the values. -/
def feedRead (args : List Word) (s : State) : State × Reply :=
  let n := bits (arg args 1) 0 8
  if 8 ≤ n then refuse s .range
  else
    let f : FeedId := Fin.ofNat 8 n
    (if bit (arg args 1) 8 then s.setFeed f (s.feed f).clearCounters else s,
      Reply.ok (feedReadWords (s.feed f) (s.trackConstant (s.feed f))))

/-- A tracking constant as it is taken: 0 is taken as 1 (R33). -/
def trackValue (n : Nat) : Nat := max 1 n

/-- The effect of TRACK_SET (R33). -/
def trackSet (args : List Word) (s : State) : State × Reply :=
  let n := bits (arg args 1) 0 8
  let value := trackValue (bits (arg args 1) 16 16)
  if 5 ≤ n then refuse s .range
  else if n < 2 then refuse s .fixed
  else ({ s with trackK := tset s.trackK (Fin.ofNat 5 n) value }, Reply.ok [pack [⟨n, 0, 8⟩, ⟨value, 16, 16⟩]])

/-! ## The commands -/

/-- PICTURE_START (R18, R23 to R25, R41 to R43). -/
def execPictureStart (f : FeedId) (tick : Tick) (bottom : Bool) (s : State) : Host.Outcome State Fault Refusal :=
  .next (s.pictureStart f tick bottom).notify

/-- ACTIVE_LINE (R18, R21, R40). -/
def execActiveLine (f : FeedId) (pels : List Pel) (s : State) : Host.Outcome State Fault Refusal :=
  .next (s.activeLine f pels)

/-- ANCILLARY_PACKET (R19). -/
def execAncillaryPacket (f : FeedId) (p : Packet) (s : State) : Host.Outcome State Fault Refusal :=
  .next (s.packet f p)

/-- PICTURE_TIMECODE (R20). -/
def execPictureTimecode (f : FeedId) (tc : Timecode) (s : State) : Host.Outcome State Fault Refusal :=
  .next (s.timecodeIn f tc)

/-- PICTURE_END (R27, R28). -/
def execPictureEnd (f : FeedId) (s : State) : Host.Outcome State Fault Refusal :=
  .next (s.pictureEnd f).notify

/-- SILENCE_EXPIRY (R26). -/
def execSilenceExpiry (f : FeedId) (s : State) : Host.Outcome State Fault Refusal :=
  .next (s.silenceExpiry f).notify

/-- FEED_SET (R35). -/
def execFeedSet (s : State) : Host.Outcome State Fault Refusal :=
  .next (take .feedSet feedSet s)

/-- FEED_READ (R36). -/
def execFeedRead (s : State) : Host.Outcome State Fault Refusal :=
  .next (take .feedRead feedRead s)

/-- TRACK_SET (R33). -/
def execTrackSet (s : State) : Host.Outcome State Fault Refusal :=
  .next (take .trackSet trackSet s)

end Sys2Proof.Machine
end

