-- ==== Sys2Proof/Machine/Timelines.lean ====
section
/-! DEFINITION. Timeline Generators A and B and the assignment of ports to them (R10 to R17): TIMELINE_SET,
TIMELINE_READ and PORT_SET. -/

namespace Sys2Proof.Machine

/-- The next-boundary tick of a timeline started at a tick (R10). -/
def startBoundary (st : Standard) (tick : Tick) : Tick :=
  tick + BitVec.ofNat 32 st.nominal

/-- A timeline with a standard, before its first boundary (R10): its next parity is the standard's first, its next
timecode 00:00:00:00 with the standard's drop flag, and it has no current timecode. -/
def Timeline.withStandard (tl : Timeline) (st : Standard) : Timeline :=
  { tl with
    standard := st
    nextParity := st.firstParity
    nextTimecode := zeroTimecode st.drop
    currentTimecode := none }

/-- A start of a timeline with a standard and a next timecode (R10, R12). -/
def Timeline.startWith (tl : Timeline) (st : Standard) (tick : Tick) (next : Timecode) : Timeline :=
  { tl.withStandard st with
    state := .running
    nextBoundary := some (startBoundary st tick)
    counter := 0
    nextTimecode := next }

/-- The start at the end of the power-on load (R10): timecode 00:00:00:00. -/
def Timeline.start (tl : Timeline) (tick : Tick) : Timeline :=
  tl.startWith tl.standard tick (zeroTimecode tl.standard.drop)

/-- An output boundary of a running timeline (R11): the picture it begins has the old `nextParity`. -/
def Timeline.boundary (tl : Timeline) : Timeline :=
  { tl with
    counter := tl.counter + 1
    nextParity := tl.standard.parityAfter tl.nextParity
    currentTimecode := some tl.nextTimecode
    nextTimecode := tl.standard.advance tl.nextTimecode
    nextBoundary := tl.nextBoundary.map (fun t => t + BitVec.ofNat 32 tl.standard.nominal) }

/-! ## The cut of a restart (R12, R106, R120, R143) -/

/-- A port that a restart cuts: it carries BLACK with no packets and no timecode (R12, R120). -/
def Port.cut (p : Port) : Port :=
  { p with content := .black, timecode := none, packets := [] }

/-- The timeline of the monitor's pictures (R143). -/
def State.monitorTimeline (s : State) : TimelineId :=
  match s.monitor.view with
  | .off => .a
  | .port p => s.portTimeline p
  | .feed _ t => t

/-- The monitor's picture ends and it carries black with no packets and no timecode (R143, R147). -/
def Monitor.cut (m : Monitor) : Monitor :=
  { m with content := .black, packets := [], timecode := none, picture := none }

/-- The boundary interval in progress on a timeline is cut (R12): its ports carry BLACK, the pictures in progress on
them end (R106), and the monitor sends black when its view is on the timeline (R143). The black lines until the first
boundary after the restart, those not yet sent of a cut picture among them, are in the standard of the interval that
was cut: neither R12 nor R106 says in which they are (DESIGN CHOICE, log 29). -/
def State.cutTimeline (s : State) (t : TimelineId) : State :=
  { s with
    ports := s.ports.map (fun p => if p.timeline = t then p.cut else p)
    routes := s.routes.map (fun r => if s.portTimeline r.port = t then { r with picture := none } else r)
    monitor := if s.monitorTimeline = t then s.monitor.cut else s.monitor }

/-- The checks of a TIMELINE_SET (R12). `time` is the starting timecode's word when the command has one. -/
def timelineSetStatus (s : State) (t : Option TimelineId) (st : Option Standard) (time : Option Word) : Status :=
  match t with
  | none => .range
  | some t =>
    match st with
    | none => .range
    | some st =>
      if time.any (fun w => !st.validTimecode (startTimecode st w)) then .range
      else if s.liveOnTimeline t ≠ 0 then .timelineInUse
      else .ok

/-- The starting timecode of a TIMELINE_SET, or 00:00:00:00 (R12). -/
def timelineSetTimecode (st : Standard) (time : Option Word) : Timecode :=
  match time with
  | some w => startTimecode st w
  | none => zeroTimecode st.drop

/-- The effect of TIMELINE_SET taken at a tick (R12). -/
def timelineSet (tick : Tick) (args : List Word) (s : State) : State × Reply :=
  let w := arg args 1
  let time := if args.length = 2 then some (arg args 2) else none
  match timelineSetStatus s (timelineOfCode (bits w 0 8)) (standardOfCode (bits w 8 8)) time,
      timelineOfCode (bits w 0 8), standardOfCode (bits w 8 8) with
  | .ok, some t, some st =>
    ((s.cutTimeline t).setTimeline t ((s.timeline t).startWith st tick (timelineSetTimecode st time)),
      Reply.ok [startBoundary st tick])
  | status, _, _ => refuse s status

/-- The bits 8 + p of a TIMELINE_READ reply: the ports assigned to a timeline (R13). -/
def timelinePorts (s : State) (t : TimelineId) : List Field :=
  (List.finRange 8).map (fun p => ⟨flag (s.portTimeline p == t), 8 + p.val, 1⟩)

/-- The words of a TIMELINE_READ reply (R13). -/
def timelineReadWords (s : State) (t : TimelineId) : List Word :=
  let tl := s.timeline t
  [pack [⟨tl.state.code, 0, 1⟩, ⟨tl.standard.code, 4, 4⟩, ⟨tl.nextParity.code, 8, 2⟩,
      ⟨flag tl.currentTimecode.isSome, 12, 1⟩],
   tl.nextBoundary.getD 0, tl.counter, timecodeWord tl.nextTimecode,
   (tl.currentTimecode.map timecodeWord).getD 0, referenceWord s.reference,
   pack (⟨s.liveOnTimeline t, 0, 5⟩ :: timelinePorts s t)]

/-- The effect of TIMELINE_READ (R13): the clear flag clears BAD_PULSES after the reply has its value. -/
def timelineRead (args : List Word) (s : State) : State × Reply :=
  match timelineOfCode (bits (arg args 1) 0 8) with
  | none => refuse s .range
  | some t =>
    ({ s with reference :=
        if bit (arg args 1) 8 then { s.reference with badPulses := 0 } else s.reference },
      Reply.ok (timelineReadWords s t))

/-- The effect of PORT_SET (R15). The port's record keeps everything but its timeline: the picture in progress of a
CLOSING record goes on to its last line (R106), and the port's lines keep the standard they have until the new
timeline's next boundary (R15, R113). -/
def portSet (args : List Word) (s : State) : State × Reply :=
  let port := bits (arg args 1) 0 8
  if 8 ≤ port then refuse s .range
  else
    match timelineOfCode (bits (arg args 1) 8 8) with
    | none => refuse s .range
    | some t =>
      let p : PortId := Fin.ofNat 8 port
      if (s.routeOnPort p).isSome then refuse s .portInUse
      else (s.setPort p { s.port p with timeline := t }, Reply.ok [])

/-- TIMELINE_SET (R12). -/
def execTimelineSet (tick : Tick) (s : State) : Host.Outcome State Fault Refusal :=
  .next (take .timelineSet (timelineSet tick) s)

/-- TIMELINE_READ (R13). -/
def execTimelineRead (s : State) : Host.Outcome State Fault Refusal :=
  .next (take .timelineRead timelineRead s)

/-- PORT_SET (R15). -/
def execPortSet (s : State) : Host.Outcome State Fault Refusal :=
  .next (take .portSet portSet s)

end Sys2Proof.Machine
end

