-- ==== Sys2Proof/Machine/Output.lean ====
section
/-! DEFINITION. The Output Stage and the Ancillary Mapper (R120 to R136), OUTPUT_LINE (R106, R112) and PORT_MUTE
(R123). -/

namespace Sys2Proof.Machine

/-! ## The Ancillary Mapper (R125 to R132) -/

/-- The dominant slot of a route's output pair (R125). -/
def Route.dominantSlot (r : Route) : Option SlotId :=
  r.pair.map (fun p => p.slots.dominant p.weight)

/-- Whether a dominant picture is new to a route (R128). -/
def Route.newPicture (r : Route) (seq : BitVec 32) : Bool :=
  decide (r.lastDominant ≠ some seq)

/-- Whether a repeat policy carries a packet (R129). -/
def RepeatPolicy.carries (p : RepeatPolicy) (new : Bool) : Bool :=
  match p with
  | .once => new
  | .every => true

/-- What a matched entry's action makes of a packet (R129). -/
def MapAction.decide (a : MapAction) (new : Bool) (p : Packet) : Option Packet :=
  match a with
  | .pass policy => if policy.carries new then some p else none
  | .retag policy key => if policy.carries new then some { p with key := key } else none
  | .drop => none

/-- What the unmapped action makes of a packet (R130). -/
def UnmappedAction.decide (a : UnmappedAction) (new : Bool) (p : Packet) : Option Packet :=
  match a with
  | .drop => none
  | .passOnce => if new then some p else none
  | .passEvery => some p

/-- What the mapper makes of a packet by a route's setting (R129 to R131): a packet retagged to family 0 is dropped. -/
def mapPacket (setting : RouteSetting) (new : Bool) (p : Packet) : Option Packet :=
  Option.filter (fun q => q.key.family != 0)
    (match setting.mapList.find? (fun e => e.key == p.key) with
     | some e => e.action.decide new p
     | none => setting.unmapped.decide new p)

/-- The output list made of a dominant slot's packets (R128 to R131). -/
def outputList (setting : RouteSetting) (new : Bool) (packets : List Packet) : List Packet :=
  packets.filterMap (mapPacket setting new)

/-! ## The content decision (R121) -/

/-- The route content of a port from the record that names it (R121). -/
def routeContent (r : Option Route) : Content :=
  match r with
  | none => .black
  | some r =>
    match r.state with
    | .running => .live
    | .held => if r.pair.isSome then .hold else .black
    | .starved => if r.pair.isSome then .hold else .black
    | .priming => if r.pair.isSome then .hold else .black
    | .lapsed => .black
    | .closing => .black
    | .free => .black

/-- The carried content of a port (R121). -/
def carriedContent (mute : Bool) (content : Content) : Content :=
  if mute then .black else content

/-- The carried timecode of a LIVE or HOLD picture (R133). -/
def chosenTimecode (mode : TimecodeMode) (slot : Slot) (house : Option Timecode) : Option Timecode :=
  match mode with
  | .off => none
  | .source => slot.timecode
  | .house => house

/-! ## A port at a boundary (R122, R126, R114) -/

/-- The port's record when it carries BLACK (R122, R133). -/
def Port.carryBlack (p : Port) (house : Option Timecode) : Port :=
  { p with content := .black, packets := [], timecode := house }

/-- The port's record when it carries a route's picture (R122). -/
def Port.carry (p : Port) (content : Content) (packets : List Packet) (timecode : Option Timecode) : Port :=
  { p with content := content, packets := packets, timecode := timecode }

/-- The route's picture in progress after the content decision (R114): a REPEAT is begun at HOLD, a RUNNING route keeps
its LIVE picture whatever the mute flag, and any other picture ends. -/
def Route.contentPicture (r : Route) (carried : Content) (parity : Parity) : Option Picture :=
  match carried with
  | .live => r.picture
  | .hold => r.pair.map (fun p => repeatPicture p r.outStandard parity)
  | .black => if r.state = .running then r.picture else none

/-- What a boundary does to the port that a live route names: the mapper acts on the route content, the port carries
the carried content (R121, R122, R126, R128, R133). -/
def State.carryRoute (s : State) (p : PortId) (i : RouteId) (parity : Parity) (house : Option Timecode) : State :=
  let r := s.route i
  let content := routeContent (some r)
  let carried := carriedContent (s.port p).mute content
  match content, r.dominantSlot with
  | .black, _ =>
    (s.setRoute i { r with picture := r.contentPicture .black parity }).setPort p ((s.port p).carryBlack house)
  | _, none =>
    (s.setRoute i { r with picture := r.contentPicture .black parity }).setPort p ((s.port p).carryBlack house)
  | _, some d =>
    let slot := s.slot d
    (s.setRoute i { r with picture := r.contentPicture carried parity, lastDominant := some slot.seq }).setPort p
      (if carried = .black then (s.port p).carryBlack house
       else (s.port p).carry carried (outputList r.setting (r.newPicture slot.seq) slot.packets)
        (chosenTimecode r.setting.timecode slot house))

/-- A boundary interval begun at a port: its lines are in the standard of its timeline (R113, R15). -/
def State.beginInterval (s : State) (p : PortId) : State :=
  s.setPort p { s.port p with standard := s.portStandard p }

/-- What a port carries from a boundary on (R121, R122), after the records' own actions. -/
def State.portContent (s : State) (p : PortId) (parity : Parity) (house : Option Timecode) : State :=
  match s.routeOnPort p with
  | some i => s.carryRoute p i parity house
  | none => s.setPort p ((s.port p).carryBlack house)

/-- A boundary at a port (R113, R121, R122). -/
def State.portBoundary (s : State) (p : PortId) (parity : Parity) (house : Option Timecode) : State :=
  (s.beginInterval p).portContent p parity house

/-! ## Output lines (R106, R112, R113) -/

/-- The record, if any, whose picture in progress on a port has a line left. -/
def State.pictureOnPort (s : State) (p : PortId) : Option RouteId :=
  (List.finRange 16).find? (fun i =>
    (s.route i).state != .free && (s.route i).port == p && (s.route i).picture.any Picture.unfinished)

/-- The count of a picture's first clamped sample (R112): a LIVE picture of a live route counts once. -/
def Route.countClip (r : Route) (pic : Picture) (clamped : Bool) : Route :=
  if clamped && !pic.clipped && pic.kind == .live && r.state.live then
    { r with counters := { r.counters with clips := sat16 r.counters.clips } }.raise .clip
  else r

/-- A route with a line of its picture in progress produced (R106, R104, R112). -/
def Route.produce (r : Route) (pic : Picture) (clamped : Bool) : Route :=
  { r.countClip pic clamped with picture := some (pic.advance clamped) }

/-- A line handed to the pins of a port, and to the monitor's when it copies the port (R106, R146). -/
def State.sendLine (s : State) (p : PortId) (line : List Pel) : State :=
  { s.setPort p { s.port p with lineOut := line } with
    monitor :=
      if s.monitor.content = .copy ∧ s.monitor.view = .port p then { s.monitor with lineOut := line } else s.monitor }

/-- The next line of a port (R106): of the picture in progress, with black put in its place when the port carries
BLACK, or a black line when no picture has a line left. Black lines are in the standard of the interval in progress
(R113, R15): a port that PORT_SET moves, a timeline that restarts or a control reset changes it at the next boundary
alone (DESIGN CHOICE where no boundary has set it or a restart or a reset came since, log 29). -/
def State.portLine (s : State) (p : PortId) : State :=
  match s.pictureOnPort p with
  | none => s.sendLine p (blackLine (s.port p).standard)
  | some i =>
    match (s.route i).picture with
    | none => s.sendLine p (blackLine (s.port p).standard)
    | some pic =>
      let blended := blendLine s.dram s.slots pic pic.nextLine
      (s.setRoute i ((s.route i).produce pic (lineClamped blended))).sendLine p
        (if (s.port p).content = .black then blackLine (s.port p).standard else legalLine blended)

/-- The monitor with a line of its picture in progress produced and sent; its clamps set the clipped flag and count
nothing (R104, R112, R115). -/
def Monitor.produce (m : Monitor) (pic : Picture) (blended : List (Nat × Nat)) : Monitor :=
  { m with lineOut := legalLine blended, picture := some (pic.advance (lineClamped blended)) }

/-- The monitor with a black line sent, in the standard of the interval in progress (R113, R143): that of the boundary
before a MONITOR_SET, a restart or a control reset until the next boundary (DESIGN CHOICE, log 29). -/
def Monitor.sendBlack (m : Monitor) : Monitor :=
  { m with lineOut := blackLine m.standard }

/-- A line of the monitor port outside a port view: of its picture in progress, or black (R115, R143). -/
def State.monitorLine (s : State) : State :=
  match s.monitor.content with
  | .copy => s
  | .black => { s with monitor := s.monitor.sendBlack }
  | .picture =>
    match s.monitor.picture.filter Picture.unfinished with
    | some pic => { s with monitor := s.monitor.produce pic (blendLine s.dram s.slots pic pic.nextLine) }
    | none => { s with monitor := s.monitor.sendBlack }

/-- The next line of an output (R106). -/
def State.outputLine (s : State) (o : OutputId) : State :=
  match o with
  | .port p => s.portLine p
  | .monitor => s.monitorLine

/-! ## PORT_MUTE (R123) -/

/-- The handle of the live route on a port, with its presence. -/
def State.portHandle (s : State) (p : PortId) : Option Nat :=
  (s.routeOnPort p).map (fun i => handleOf i (s.route i).generation)

/-- The word of a PORT_MUTE reply (12). -/
def portMuteWord (s : State) (p : PortId) : Word :=
  pack [⟨timelineCode (s.port p).timeline, 0, 1⟩, ⟨flag (s.port p).mute, 1, 1⟩, ⟨(s.port p).content.code, 4, 2⟩,
    ⟨flag (s.portHandle p).isSome, 8, 1⟩, ⟨(s.portHandle p).getD 0, 16, 8⟩]

/-- The effect of PORT_MUTE (R123). -/
def portMute (args : List Word) (s : State) : State × Reply :=
  let n := bits (arg args 1) 0 8
  let value := bits (arg args 1) 8 8
  if 8 ≤ n then refuse s .range
  else if 2 ≤ value then refuse s .range
  else
    let p : PortId := Fin.ofNat 8 n
    let s1 := s.setPort p { s.port p with mute := value == 1 }
    (s1, Reply.ok [portMuteWord s1 p])

/-- OUTPUT_LINE (R106). -/
def execOutputLine (o : OutputId) (s : State) : Host.Outcome State Fault Refusal :=
  .next (s.outputLine o).notify

/-- PORT_MUTE (R123). -/
def execPortMute (s : State) : Host.Outcome State Fault Refusal :=
  .next (take .portMute portMute s)

end Sys2Proof.Machine
end

