-- ==== Sys2Proof/Machine/Monitor.lean ====
section
/-! DEFINITION. The monitor port (R143 to R147): its content at a boundary, and MONITOR_SET. -/

namespace Sys2Proof.Machine

/-- The monitor when it carries BLACK at a boundary (R145, R146). -/
def Monitor.carryBlack (m : Monitor) (house : Option Timecode) : Monitor :=
  { m with content := .black, packets := [], timecode := house, picture := none }

/-- The latest of a feed view, when a boundary of a timeline of a standard can show it (R145): the family of its
slot's standard is the timeline's. -/
def State.showableLatest (s : State) (st : Standard) : Option SlotId :=
  s.monitor.latest.filter (fun i => decide ((s.slot i).standard.map Standard.family = some st.family))

/-- A boundary of a feed view's timeline (R145). -/
def State.monitorFeedBoundary (s : State) (st : Standard) (parity : Parity) (house : Option Timecode) : State :=
  match s.showableLatest st with
  | some i =>
    { s with
      monitor := { s.monitor with
        pair := some i
        content := .picture
        packets := (s.slot i).packets
        timecode := (s.slot i).timecode
        picture := some (monitorPicture i st parity) }
      slots := SlotTable.replacePair s.slots s.monitor.pair.toList [i] }
  | none =>
    { s with
      monitor := { s.monitor.carryBlack house with pair := none }
      slots := SlotTable.releasePair s.slots s.monitor.pair.toList }

/-- A boundary of a port view's timeline (R146). -/
def State.monitorCopyBoundary (s : State) (p : PortId) : State :=
  { s with monitor := { s.monitor with
      content := .copy, packets := (s.port p).packets, timecode := (s.port p).timecode, picture := none } }

/-- A boundary interval begun at the monitor: its lines are in the standard of its timeline (R113, R143). -/
def State.beginMonitorInterval (s : State) (st : Standard) : State :=
  { s with monitor := { s.monitor with standard := st } }

/-- What the monitor carries from a boundary of its timeline, of a standard, on (R143, R145, R146). -/
def State.monitorContent (s : State) (st : Standard) (parity : Parity) (house : Option Timecode) : State :=
  match s.monitor.view with
  | .off => { s with monitor := s.monitor.carryBlack house }
  | .port p => s.monitorCopyBoundary p
  | .feed _ _ => s.monitorFeedBoundary st parity house

/-- A boundary of a timeline at the monitor: it acts when the timeline is its own (R143). -/
def State.monitorBoundary (s : State) (t : TimelineId) (parity : Parity) (house : Option Timecode) : State :=
  if s.monitorTimeline = t then
    (s.beginMonitorInterval (s.timeline t).standard).monitorContent (s.timeline t).standard parity house
  else s

/-- The view a MONITOR_SET's words give, through the checks in their order (R147): none is RANGE. -/
def monitorView (w : Word) : Option MonitorView :=
  match bits w 0 8 with
  | 0 => some .off
  | 1 => if bits w 8 8 < 8 then some (.port (Fin.ofNat 8 (bits w 8 8))) else none
  | 2 =>
    if bits w 8 8 < 8 then (timelineOfCode (bits w 16 8)).map (fun t => .feed (Fin.ofNat 8 (bits w 8 8)) t)
    else none
  | _ => none

/-- Whether a change of view keeps the latest (R147 step 3): both are feed views of one feed. -/
def MonitorView.sameFeed (old new : MonitorView) : Bool :=
  match old, new with
  | .feed f _, .feed g _ => f == g
  | _, _ => false

/-- A change of the monitor's view (R147). The lines not yet sent, and those until the new view's first boundary, are
black in the standard of the interval in progress (DESIGN CHOICE, log 29). -/
def State.setView (s : State) (view : MonitorView) : State :=
  let keep := s.monitor.view.sameFeed view
  { s with
    monitor := { s.monitor.cut with
      view := view, pair := none, latest := if keep then s.monitor.latest else none }
    slots := SlotTable.unholdAll (SlotTable.releasePair s.slots s.monitor.pair.toList)
      (if keep then [] else s.monitor.latest.toList) }

/-- The effect of MONITOR_SET (R147). -/
def monitorSet (args : List Word) (s : State) : State × Reply :=
  match monitorView (arg args 1) with
  | none => refuse s .range
  | some view =>
    let s1 := if view = s.monitor.view then s else s.setView view
    (s1, Reply.ok (monitorWords s1.monitor s1.slots))

/-- MONITOR_SET (R147). -/
def execMonitorSet (s : State) : Host.Outcome State Fault Refusal :=
  .next (take .monitorSet monitorSet s)

end Sys2Proof.Machine
end

