-- ==== Sys2Proof/Machine/Boundary.lean ====
section
/-! DEFINITION. OUTPUT_BOUNDARY (R11): the timeline's advance, the boundary at each route (R62 to R64, R71, R81 to
R90), at each port and at the monitor. -/

namespace Sys2Proof.Machine

/-! ## A route at a boundary (R62) -/

/-- The route's record as a RUNNING boundary leaves it for a selection of two entries (R86 to R88, R105): the pair, the
snapshot, OUTPUTS, the LIVE picture and the check. -/
def Route.select (r : Route) (profile : Profile) (parity : Parity) (step : Nat) (a b : WindowEntry) : Route :=
  let w := weightOf r.phase
  let pair := pairOf profile w a b
  { r with
    pair := some pair
    frozen := false
    snapshot := some (snapshotOf w a b)
    counters := { r.counters with outputs := r.counters.outputs + 1 }
    picture := some (livePicture pair r.outStandard parity) }.check (dominantEntry w a b).admitNumber step

/-- A boundary of a RUNNING route (R81 to R88): step, clamp, select. A window without both positions selects nothing;
no RUNNING route has one (R91, log 18). -/
def Route.runBoundary (r : Route) (period : Nat) (profile : Profile) (parity : Parity) (slots : SlotTable) :
    Route × SlotTable :=
  let r1 := (r.stepPhase period).countClamp (clampOf r.window.length (r.steppedPhase period))
  match r.positions (r.nextPhase period) with
  | some (a, b) =>
    (r1.select profile parity (r.baseStep period) a b,
      SlotTable.replacePair slots (pairList r.pair) (selectSlots (weightOf (r.nextPhase period)) a.slot b.slot).list)
  | none => (r1, slots)

/-- The lapse advanced (R63). -/
def Route.advanceLapse (r : Route) : Route :=
  { r with lapse := sat16 r.lapse }

/-- Whether a route's lapse meets its retire limit (R63). -/
def Route.retireDue (r : Route) : Bool :=
  r.setting.retireLimit.any (fun l => decide (l ≤ r.lapse))

/-- Whether a STARVED route's lapse meets its hold limit (R63). -/
def Route.lapseDue (r : Route) : Bool :=
  r.state == .starved && decide (r.setting.holdLimit ≠ 0) && decide (r.setting.holdLimit ≤ r.lapse)

/-- A route that enters LAPSED (R63). -/
def Route.enterLapsed (r : Route) : Route :=
  { r with state := .lapsed, pair := none, frozen := false }.raise .lapsed

/-- A boundary of a STARVED or LAPSED route (R63, R64). -/
def State.lapseBoundary (s : State) (i : RouteId) : State :=
  let r := (s.route i).advanceLapse
  if r.retireDue then (s.setRoute i r).retire i
  else if r.lapseDue then
    { s.setRoute i r.enterLapsed with slots := SlotTable.releasePair s.slots (pairList r.pair) }
  else s.setRoute i r

/-- A boundary of a CLOSING record (R71). -/
def State.closingBoundary (s : State) (i : RouteId) : State :=
  { s.setRoute i (s.route i).vacate with slots := SlotTable.releasePair s.slots (pairList (s.route i).pair) }

/-- A boundary of a RUNNING route in the state (R62). -/
def State.runningBoundary (s : State) (i : RouteId) (parity : Parity) : State :=
  let r := s.route i
  let res := r.runBoundary (s.feed r.feed).period (s.profile r.setting.profile) parity s.slots
  { s.setRoute i res.1 with slots := res.2 }

/-- A boundary of a HELD route (R62, R90). -/
def State.heldBoundary (s : State) (i : RouteId) : State :=
  let r := s.route i
  if 2 ≤ r.window.length then s.setRoute i (r.stepPhase (s.feed r.feed).period) else s

/-- A route record at a boundary of its port's timeline (R62). -/
def State.routeBoundary (s : State) (parity : Parity) (i : RouteId) : State :=
  match (s.route i).state with
  | .running => s.runningBoundary i parity
  | .held => s.heldBoundary i
  | .starved => s.lapseBoundary i
  | .lapsed => s.lapseBoundary i
  | .closing => s.closingBoundary i
  | .priming => s
  | .free => s

/-! ## The boundary (R11) -/

/-- The boundary at every record whose port is on the timeline, in index order (log 12). -/
def State.routesBoundary (s : State) (t : TimelineId) (parity : Parity) : State :=
  (List.finRange 16).foldl
    (fun s i => if s.portTimeline (s.route i).port = t then s.routeBoundary parity i else s) s

/-- The boundary at every port on the timeline, in number order (log 12). -/
def State.portsBoundary (s : State) (t : TimelineId) (parity : Parity) (house : Option Timecode) : State :=
  (List.finRange 8).foldl
    (fun s p => if s.portTimeline p = t then s.portBoundary p parity house else s) s

/-- An output boundary of a running timeline (R11): the picture begun has the timeline's old next parity and its new
current timecode. -/
def State.boundary (s : State) (t : TimelineId) : State :=
  let parity := (s.timeline t).nextParity
  let tl := (s.timeline t).boundary
  (((s.setTimeline t tl).routesBoundary t parity).portsBoundary t parity tl.currentTimecode).monitorBoundary t parity
    tl.currentTimecode

/-- OUTPUT_BOUNDARY (R11). A stopped timeline produces no boundary (R10, log 3). -/
def execOutputBoundary (t : TimelineId) (s : State) : Host.Outcome State Fault Refusal :=
  .next (if (s.timeline t).state = .running then (s.boundary t).notify else s)

end Sys2Proof.Machine
end

