-- ==== Sys2Proof/Machine/Events.lean ====
section
/-! DEFINITION. The Command Unit's own commands: EVENTS_TAKE (R159), NOTIFY_SET (R160) and DEVICE_READ (R162). -/

namespace Sys2Proof.Machine

/-! ## EVENTS_TAKE (R159) -/

/-- The word of the device's pending set and retired set (12). -/
def deviceWord (d : Device) : Word :=
  pack [⟨d.events.toNat, 0, 5⟩, ⟨d.retired.toNat, 16, 16⟩]

/-- A route's pending set taken (R159). -/
def takeRouteEvents (args : List Word) (s : State) : State × Reply :=
  let h := bits (arg args 1) 8 8
  let i := handleIndex h
  if s.handleValid h then
    (s.setRoute i { s.route i with events := 0 }, Reply.ok [(s.route i).events.setWidth 32])
  else refuse s .stale

/-- A feed's pending set taken (R159). -/
def takeFeedEvents (args : List Word) (s : State) : State × Reply :=
  let n := bits (arg args 1) 8 8
  let f : FeedId := Fin.ofNat 8 n
  if 8 ≤ n then refuse s .range
  else (s.setFeed f { s.feed f with events := 0 }, Reply.ok [(s.feed f).events.setWidth 32])

/-- The device's pending set and retired set taken (R159). -/
def takeDeviceEvents (s : State) : State × Reply :=
  ({ s with device := { s.device with events := 0, retired := 0 } }, Reply.ok [deviceWord s.device])

/-- The effect of EVENTS_TAKE (R159). -/
def eventsTake (args : List Word) (s : State) : State × Reply :=
  match bits (arg args 1) 0 8 with
  | 0 => takeRouteEvents args s
  | 1 => takeFeedEvents args s
  | 2 => takeDeviceEvents s
  | _ => refuse s .range

/-! ## NOTIFY_SET (R160) -/

/-- The masks and the enable in a NOTIFY_SET's words: positions that name no kind are ignored (R160). -/
def Device.setMasks (d : Device) (args : List Word) : Device :=
  { d with
    routeMask := (arg args 1).setWidth 8
    feedMask := (arg args 2).setWidth 4
    deviceMask := (arg args 3).setWidth 5
    enable := bits (arg args 3) 8 8 == 1 }

/-- The effect of NOTIFY_SET (R160): the reply has the summary word as it stands after the command. -/
def notifySet (args : List Word) (s : State) : State × Reply :=
  if 2 ≤ bits (arg args 3) 8 8 then refuse s .range
  else
    let d := s.device.setMasks args
    ({ s with device := d }, Reply.ok [maskWord d, summaryWord s.routes s.feeds d])

/-! ## DEVICE_READ (R162) -/

/-- The half word of a record in words 6 to 13. -/
def routeHalf (i : RouteId) (r : Route) (lo : Nat) : List Field :=
  [⟨r.state.code, lo, 3⟩, ⟨if r.state.live then handleOf i r.generation else 0, lo + 8, 8⟩]

/-- Words 6 to 13: the route records, two to a word. -/
def deviceRouteWords (s : State) : List Word :=
  (List.finRange 8).map (fun k =>
    let even : RouteId := ⟨2 * k.val, by omega⟩
    let odd : RouteId := ⟨2 * k.val + 1, by omega⟩
    pack (routeHalf even (s.route even) 0 ++ routeHalf odd (s.route odd) 16))

/-- The occupancy word of a feed (R52). -/
def deviceFeedWord (s : State) (f : FeedId) : Word :=
  let slots := (feedSlots f).map s.slot
  pack [⟨(s.feed f).state.code, 0, 3⟩, ⟨flag (slots.any (fun x => x.state == .writing)), 3, 1⟩,
    ⟨slots.countP (fun x => x.state == .ready), 4, 5⟩, ⟨(slots.map Slot.hold).sum, 12, 9⟩,
    ⟨(slots.map Slot.pin).sum, 22, 9⟩]

/-- Whether a CLOSING record pins a pair on a port (R135). -/
def State.closingOnPort (s : State) (p : PortId) : Bool :=
  (List.finRange 16).any (fun i => (s.route i).state == .closing && (s.route i).port == p && (s.route i).pair.isSome)

/-- The word of a port (R135). -/
def devicePortWord (s : State) (p : PortId) : Word :=
  pack [⟨timelineCode (s.port p).timeline, 0, 1⟩, ⟨flag (s.port p).mute, 1, 1⟩, ⟨(s.port p).content.code, 2, 2⟩,
    ⟨flag (s.closingOnPort p), 4, 1⟩, ⟨flag (s.routeOnPort p).isSome, 5, 1⟩,
    ⟨((s.routeOnPort p).map Fin.val).getD 0, 8, 4⟩, ⟨(s.portHandle p).getD 0, 16, 8⟩]

/-- The bits of the modules that were present, House first. -/
def moduleFields (modules : List ModuleId) : List Field :=
  [⟨flag (modules.contains .house), 8, 1⟩, ⟨flag (modules.contains .track), 9, 1⟩,
   ⟨flag (modules.contains .profile), 10, 1⟩, ⟨flag (modules.contains .feed), 11, 1⟩,
   ⟨flag (modules.contains .preset), 12, 1⟩]

/-- The byte of an entry of the refusal list. -/
def refusalField (refusals : List (PresetId × Status)) (n : Nat) : Field :=
  match refusals[n]? with
  | some (preset, status) => ⟨preset.val + 16 * status.code, 8 * (n % 4), 8⟩
  | none => ⟨0, 0, 0⟩

/-- Words 33 to 40: the loader result (R170). -/
def loaderWords (r : LoaderResult) : List Word :=
  [pack ([⟨r.outcome.code, 0, 2⟩, ⟨loadCauseCode r.cause, 2, 2⟩, ⟨flag r.version.isSome, 4, 1⟩,
      ⟨flag r.autostart, 5, 1⟩] ++ moduleFields r.modules
      ++ [⟨r.opened, 16, 5⟩, ⟨r.refusals.length, 24, 5⟩]),
   pack [⟨(r.version.getD 0).toNat, 0, 16⟩],
   pack [⟨r.profileApplied, 0, 16⟩, ⟨r.profileRefused, 16, 16⟩],
   pack [⟨r.feedApplied, 0, 4⟩, ⟨r.feedRefused, 8, 4⟩]]
    ++ (List.range 4).map (fun k =>
      pack ((List.range 4).map (fun j => refusalField r.refusals (4 * k + j))))

/-- The word of the two timelines. -/
def timelinesWord (s : State) : Word :=
  pack [⟨s.timelineA.state.code, 0, 1⟩, ⟨s.timelineA.standard.code, 4, 4⟩, ⟨s.timelineB.state.code, 8, 1⟩,
    ⟨s.timelineB.standard.code, 12, 4⟩]

/-- The words of a DEVICE_READ reply (R162; 12). -/
def deviceReadWords (s : State) : List Word :=
  [deviceWord s.device, maskWord s.device, s.device.summary, referenceWord s.reference, timelinesWord s]
    ++ deviceRouteWords s
    ++ (List.finRange 8).map (deviceFeedWord s)
    ++ (List.finRange 8).map (devicePortWord s)
    ++ monitorWords s.monitor s.slots
    ++ loaderWords s.loader.result
    ++ List.replicate 23 0

/-- The effect of DEVICE_READ (R162). -/
def deviceRead (_ : List Word) (s : State) : State × Reply :=
  (s, Reply.ok (deviceReadWords s))

/-- EVENTS_TAKE (R159). -/
def execEventsTake (s : State) : Host.Outcome State Fault Refusal :=
  .next (take .eventsTake eventsTake s)

/-- NOTIFY_SET (R160). -/
def execNotifySet (s : State) : Host.Outcome State Fault Refusal :=
  .next (take .notifySet notifySet s)

/-- DEVICE_READ (R162). -/
def execDeviceRead (s : State) : Host.Outcome State Fault Refusal :=
  .next (take .deviceRead deviceRead s)

end Sys2Proof.Machine
end

