-- ==== Sys2Proof/Machine/Profiles.lean ====
section
/-! DEFINITION. The Profile Table's commands: PROFILE_WRITE (R117) and PROFILE_READ (R118). -/

namespace Sys2Proof.Machine

/-- The contents a profile write asks for: a kind's code, and the points when its words hold them. -/
structure ProfileRequest where
  profile : Nat
  kind    : Nat
  points  : Option (List Nat)
  deriving DecidableEq, Repr

/-- The checks of PROFILE_WRITE in their order (R117). Points that the words do not hold are RANGE (R153, log 13). -/
def profileWriteStatus (q : ProfileRequest) : Status :=
  if 32 ≤ q.profile then .range
  else if q.profile < 4 then .fixed
  else if q.kind = 1 then .ok
  else if q.kind = 0 then
    match q.points with
    | none => .range
    | some points => if curveValid points then .ok else .curveInvalid
  else .range

/-- The profile a checked request writes: for SNAP the points are not kept (R117). -/
def ProfileRequest.contents (q : ProfileRequest) : Profile :=
  if q.kind = 1 then .snap else .curve (q.points.getD [])

/-- A profile write through its checks (R117). -/
def tryProfileWrite (q : ProfileRequest) (s : State) : State × Status :=
  if profileWriteStatus q = .ok then
    ({ s with profiles := tset s.profiles (Fin.ofNat 32 q.profile) q.contents }, .ok)
  else (s, profileWriteStatus q)

/-- The four points of a word (12, PROFILE_WRITE). -/
def wordPoints (w : Word) : List Nat := [bits w 0 8, bits w 8 8, bits w 16 8, bits w 24 8]

/-- The points in a PROFILE_WRITE's words 2 to 6 (12, PROFILE_WRITE). -/
def argPoints (args : List Word) : List Nat :=
  wordPoints (arg args 2) ++ wordPoints (arg args 3) ++ wordPoints (arg args 4) ++ wordPoints (arg args 5)
    ++ [bits (arg args 6) 0 8]

/-- The request in a PROFILE_WRITE's words. -/
def profileRequestOfWords (args : List Word) : ProfileRequest where
  profile := bits (arg args 1) 0 8
  kind := bits (arg args 1) 8 8
  points := if args.length = 6 then some (argPoints args) else none

/-- The effect of PROFILE_WRITE (R117). -/
def profileWrite (args : List Word) (s : State) : State × Reply :=
  let res := tryProfileWrite (profileRequestOfWords args) s
  (res.1, { status := res.2, payload := [] })

/-- The points a PROFILE_READ reports: none unless the kind is CURVE. -/
def Profile.points (p : Profile) : List Nat :=
  match p with
  | .curve points => points
  | .snap => []
  | .empty => []

/-- How many live routes name a profile (R118). -/
def State.profileUsers (s : State) (i : ProfileId) : Nat :=
  (List.finRange 16).countP (fun r => (s.route r).state.live && (s.route r).setting.profile == i)

/-- Word 2 + k of a PROFILE_READ reply: the points c[4k] to c[4k + 3]. -/
def pointsWord (points : List Nat) (k : Nat) : Word :=
  pack [⟨curvePoint points (4 * k), 0, 8⟩, ⟨curvePoint points (4 * k + 1), 8, 8⟩,
    ⟨curvePoint points (4 * k + 2), 16, 8⟩, ⟨curvePoint points (4 * k + 3), 24, 8⟩]

/-- The words of a PROFILE_READ reply (R118; 12). -/
def profileReadWords (s : State) (i : ProfileId) : List Word :=
  let points := (s.profile i).points
  [pack [⟨(s.profile i).code, 0, 2⟩, ⟨flag (decide (i.val < 4)), 8, 1⟩, ⟨s.profileUsers i, 16, 5⟩],
   pointsWord points 0, pointsWord points 1, pointsWord points 2, pointsWord points 3,
   pack [⟨curvePoint points 16, 0, 8⟩]]

/-- The effect of PROFILE_READ (R118). -/
def profileRead (args : List Word) (s : State) : State × Reply :=
  let n := bits (arg args 1) 0 8
  if 32 ≤ n then refuse s .range else (s, Reply.ok (profileReadWords s (Fin.ofNat 32 n)))

/-- PROFILE_WRITE (R117). -/
def execProfileWrite (s : State) : Host.Outcome State Fault Refusal :=
  .next (take .profileWrite profileWrite s)

/-- PROFILE_READ (R118). -/
def execProfileRead (s : State) : Host.Outcome State Fault Refusal :=
  .next (take .profileRead profileRead s)

end Sys2Proof.Machine
end

