-- ==== Sys2Proof/Config.lean ====
section
/-! DEFINITION. What the reference leaves to the implementation: the free values.
Neither constant has a body: nothing can be proved of its value. -/

namespace Sys2Proof

/-- The frequency of the internal oscillator, which is not corrected (R8). A free value (log 6). -/
opaque Config.oscillatorFrequency : Nat

/-- The frequency of the house tick after `n` good pulses in LOCKED or into it: R8 does not fix the size of a
correction. A free value (log 6). -/
opaque Config.steeredFrequency : Nat → Nat

end Sys2Proof
end

