-- ==== Sys2Proof/Machine/Reference.lean ====
section
/-! DEFINITION. The Reference Unit (R4 to R9): REFERENCE_PULSE, REFERENCE_ABSENCE and REFERENCE_SET. -/

namespace Sys2Proof.Machine

/-- The expected period P of a reference family (R4). -/
def RefFamily.period : RefFamily → Nat
  | .fifty => 1080000
  | .fiftyNine94 => 900900

/-- The tick at which the absence timer expires, while it runs (R4). -/
def Reference.absenceExpiry (r : Reference) : Option Tick :=
  r.lastPulse.map (fun t => t + BitVec.ofNat 32 (3 * r.family.period))

/-- The frequency of the house tick (R8): the oscillator's in INTERNAL, and in LOCKED and HOLDOVER the one the latest
correction left. Both are free values (log 6). -/
def Reference.frequency (r : Reference) : Nat :=
  match r.source with
  | .internal => Config.oscillatorFrequency
  | .locked => Config.steeredFrequency r.steers
  | .holdover => Config.steeredFrequency r.steers

/-- The tick source after a good pulse that leaves the good run at 16 (R7). -/
def sourceAfterLock (mode : RefMode) (source : TickSource) : TickSource :=
  match mode, source with
  | .auto, .internal => .locked
  | .auto, .locked => .locked
  | .auto, .holdover => .holdover
  | .manualExternal, .internal => .locked
  | .manualExternal, .locked => .locked
  | .manualExternal, .holdover => .locked
  | .manualInternal, src => src

/-- The tick source after an absence of the reference (R7). -/
def sourceAfterAbsence (mode : RefMode) (source : TickSource) : TickSource :=
  match mode, source with
  | .auto, .locked => .internal
  | .auto, .internal => .internal
  | .auto, .holdover => .holdover
  | .manualExternal, .locked => .holdover
  | .manualExternal, .internal => .internal
  | .manualExternal, .holdover => .holdover
  | .manualInternal, src => src

/-- The tick source after REFERENCE_SET has changed the mode (R7). -/
def sourceAfterMode (mode : RefMode) (source : TickSource) : TickSource :=
  match mode with
  | .manualInternal => .internal
  | .manualExternal => source
  | .auto => source

/-- Whether a pulse of interval `i` is good (R5): within floor(P/100) of P. -/
def goodInterval (family : RefFamily) (i : Tick) : Bool :=
  decide (family.period - family.period / 100 ≤ i.toNat) && decide (i.toNat ≤ family.period + family.period / 100)

/-- The good run after one more good pulse: it saturates at 16 (R5). -/
def nextGoodRun (n : Nat) : Nat := min 16 (n + 1)

/-- The tick source after a good pulse (R5, R7): elsewhere than in LOCKED, one that leaves the good run at 16 moves it. -/
def Reference.sourceAfterGood (r : Reference) : TickSource :=
  if r.source ≠ .locked ∧ nextGoodRun r.goodRun = 16 then sourceAfterLock r.mode r.source else r.source

/-- A good pulse (R5, R8): in LOCKED it steers the tick, and one that enters LOCKED changes the tick's frequency; both
take a new free value (log 6). -/
def Reference.goodPulse (r : Reference) : Reference :=
  { r with
    goodRun := nextGoodRun r.goodRun
    steers := if r.sourceAfterGood = .locked then r.steers + 1 else r.steers
    source := r.sourceAfterGood }

/-- A bad pulse (R5): it clears the good run and is counted. -/
def Reference.badPulse (r : Reference) : Reference :=
  { r with goodRun := 0, badPulses := sat16 r.badPulses }

/-- A pulse is judged by its interval (R5); the first pulse is not judged. -/
def Reference.judge (r : Reference) (tick : Tick) : Reference :=
  match r.lastPulse with
  | none => r
  | some last => if goodInterval r.family (tick - last) then r.goodPulse else r.badPulse

/-- A reference pulse (R5): judged or not, it becomes the last pulse. -/
def Reference.pulse (r : Reference) (tick : Tick) : Reference :=
  { r.judge tick with lastPulse := some tick }

/-- An absence of the reference (R6). -/
def Reference.absent (r : Reference) : Reference :=
  { r with lastPulse := none, goodRun := 0, source := sourceAfterAbsence r.mode r.source }

/-- A mode named by REFERENCE_SET (R9): the status, and the Reference Unit after it. -/
def Reference.setMode (r : Reference) (code : Nat) : Reference × Status :=
  match refModeOfCode code with
  | none => (r, .range)
  | some m =>
    if m = r.mode then (r, .ok)
    else if m = .auto then (r, .manualLatched)
    else ({ r with mode := m, source := sourceAfterMode m r.source }, .ok)

/-- A change of the Reference Unit: a change of the tick source raises REF_CHANGE (R7). -/
def State.setReference (s : State) (r : Reference) : State :=
  { s with
    reference := r
    device := if r.source = s.reference.source then s.device else s.device.raise .refChange }

/-- The effect of REFERENCE_SET (R9): its reply carries the reference word whether it is accepted or refused. -/
def referenceSet (args : List Word) (s : State) : State × Reply :=
  let res := s.reference.setMode (bits (arg args 1) 0 8)
  (s.setReference res.1, { status := res.2, payload := [referenceWord res.1] })

/-- REFERENCE_PULSE (R5). -/
def execReferencePulse (tick : Tick) (s : State) : Host.Outcome State Fault Refusal :=
  .next (s.setReference (s.reference.pulse tick)).notify

/-- REFERENCE_ABSENCE (R6): the absence timer expires. It runs only while the last pulse is present (log 3). -/
def execReferenceAbsence (s : State) : Host.Outcome State Fault Refusal :=
  .next (if s.reference.lastPulse.isSome then (s.setReference s.reference.absent).notify else s)

/-- REFERENCE_SET (R9). -/
def execReferenceSet (s : State) : Host.Outcome State Fault Refusal :=
  .next (take .referenceSet referenceSet s)

end Sys2Proof.Machine
end

