-- ==== Sys2Proof/Machine/Loader.lean ====
section
/-! DEFINITION. The Start-up Loader (R163 to R170): FLASH_READ, LOAD_END, and the parts of a load that pass while no
command waits. -/

namespace Sys2Proof.Machine

/-! ## Reading the image (R163, R164) -/

/-- The word of the header that holds a module's pointer (R163). -/
def ModuleId.pointerWord : ModuleId → Nat
  | .house => 2
  | .track => 3
  | .profile => 4
  | .feed => 5
  | .preset => 6

/-- The modules read after a module, in their order (R163). -/
def ModuleId.later : ModuleId → List ModuleId
  | .house => [.track, .profile, .feed, .preset]
  | .track => [.profile, .feed, .preset]
  | .profile => [.feed, .preset]
  | .feed => [.preset]
  | .preset => []

/-- Whether a pointer or a length word makes its module absent (R163). -/
def absentWord (n : Nat) : Bool := n == 0 || n == 65535

/-- The stage that reads the first present module of a list (R163). -/
def stageFor (header : List Word16) : List ModuleId → LoadStage
  | [] => .complete
  | m :: ms =>
    if absentWord (flashWord header m.pointerWord) then stageFor header ms
    else .length m (flashWord header m.pointerWord)

/-- The words of a transaction that gives at least `n` of them; fewer are a failed read (log 16). -/
def transaction (words : Option (List Word16)) (n : Nat) : Option (List Word16) :=
  match words with
  | some ws => if n ≤ ws.length then some (ws.take n) else none
  | none => none

/-- The header transaction (R163, R164): a wrong signature stops the reading. -/
def Loader.readHeader (l : Loader) (words : Option (List Word16)) : Loader :=
  match transaction words 16 with
  | none => { l with stage := .stopped .read }
  | some header =>
    if flashWord header 0 = 0xD5C3 then
      { l with header := header, stage := stageFor header [.house, .track, .profile, .feed, .preset] }
    else { l with header := header, stage := .stopped .signature }

/-- The transaction of a module's length word (R163): a body past word 65,535 is a failed read. -/
def Loader.readLength (l : Loader) (m : ModuleId) (pointer : Nat) (words : Option (List Word16)) : Loader :=
  match transaction words 1 with
  | none => { l with stage := .stopped .read }
  | some ws =>
    if absentWord (flashWord ws 0) then { l with stage := stageFor l.header m.later }
    else if 65535 < pointer + flashWord ws 0 then { l with stage := .stopped .read }
    else { l with stage := .body m (flashWord ws 0) }

/-- The transaction of a module's body (R163). -/
def Loader.readBody (l : Loader) (m : ModuleId) (count : Nat) (words : Option (List Word16)) : Loader :=
  match transaction words count with
  | none => { l with stage := .stopped .read }
  | some ws => { l with bodies := l.bodies ++ [(m, ws)], stage := stageFor l.header m.later }

/-- A transaction on the SPI master port (R163). Without one outstanding nothing changes (log 3). -/
def Loader.read (l : Loader) (words : Option (List Word16)) : Loader :=
  match l.stage with
  | .header => l.readHeader words
  | .length m p => l.readLength m p words
  | .body m n => l.readBody m n words
  | .none => l
  | .complete => l
  | .applying _ => l
  | .opening _ => l
  | .stopped _ => l

/-- The 16-bit wrapping sum of the header words and of every body word (R164). -/
def Loader.sum (l : Loader) : Word16 :=
  (l.header ++ l.bodies.flatMap Prod.snd).foldl (· + ·) 0

/-- The modules a load applies, in their order (R165): the House module at a power-on load only. -/
def Loader.modules (l : Loader) : List ModuleId :=
  if l.powerOn then [.house, .track, .profile, .feed, .preset] else [.track, .profile, .feed, .preset]

/-- Whether the reading has ended, so that the load can end (R170). -/
def Loader.readingDone (l : Loader) : Bool :=
  match l.stage with
  | .stopped _ => true
  | .complete => true
  | .applying _ => true
  | .opening _ => true
  | .none => false
  | .header => false
  | .length _ _ => false
  | .body _ _ => false

/-- The body of a module; empty when the module is absent. -/
def Loader.body (l : Loader) (m : ModuleId) : List Word16 :=
  ((l.bodies.find? (fun b => b.1 == m)).map Prod.snd).getD []

/-! ## Applying the modules (R165 to R168) -/

/-- The House module's reference family (R4): a change is an absence of the reference. -/
def Reference.setFamily (r : Reference) (family : Option RefFamily) : Reference :=
  match family with
  | some f => if f = r.family then r else { r with family := f }.absent
  | none => r

/-- A timeline's standard from the House module, which meets STOPPED timelines alone (R10): the next parity and the next
timecode's drop flag follow it, and an entry that is absent or outside 1 to 10 leaves the timeline as it is. -/
def Timeline.setStandard (tl : Timeline) (st : Option Standard) : Timeline :=
  match st with
  | some st => tl.withStandard st
  | none => tl

/-- A port's timeline from the House module (R14). -/
def Port.setTimeline (p : Port) (t : Option TimelineId) : Port :=
  { p with timeline := t.getD p.timeline }

/-- The House module applied (R4, R10, R14): a word that is absent or out of range leaves its default. -/
def State.applyHouse (s : State) (body : List Word16) : State :=
  { s.setReference (s.reference.setFamily (refFamilyOfCode (flashWord body 0))) with
    timelineA := s.timelineA.setStandard (standardOfCode (flashWord body 1))
    timelineB := s.timelineB.setStandard (standardOfCode (flashWord body 2))
    ports := Vector.ofFn (fun p : Fin 8 =>
      (s.port p).setTimeline (timelineOfCode (flashWord body (3 + p.val)))) }

/-- A constant from the Track module: 0xFFFF, or a word past the body, leaves the slot as it is (R33). -/
def trackEntry (old w : Nat) : Nat := if w = 65535 then old else trackValue w

/-- One tracking constant from a word of the Track module. -/
def applyTrackWord (k : Vector Nat 5) (slot : Fin 5) (w : Nat) : Vector Nat 5 :=
  tset k slot (trackEntry (tget k slot) w)

/-- The Track module applied (R33): words 0 to 2 are the constants of slots 2 to 4. -/
def State.applyTrack (s : State) (body : List Word16) : State :=
  let k2 := applyTrackWord s.trackK 2 (flashWord body 0)
  let k3 := applyTrackWord k2 3 (flashWord body 1)
  { s with trackK := applyTrackWord k3 4 (flashWord body 2) }

/-- One more entry of the Profile module counted by its status (R165). -/
def LoaderResult.addProfile (r : LoaderResult) (status : Status) : LoaderResult :=
  if status = .ok then { r with profileApplied := r.profileApplied + 1 }
  else { r with profileRefused := r.profileRefused + 1 }

/-- One more entry of the Feed module counted by its status (R165). -/
def LoaderResult.addFeed (r : LoaderResult) (status : Status) : LoaderResult :=
  if status = .ok then { r with feedApplied := r.feedApplied + 1 } else { r with feedRefused := r.feedRefused + 1 }

/-- One more preset opened or refused (R168). -/
def LoaderResult.addOpening (r : LoaderResult) (n : PresetId) (status : Status) : LoaderResult :=
  if status = .ok then { r with opened := r.opened + 1 } else { r with refusals := r.refusals ++ [(n, status)] }

/-- The state with the loader result so far. -/
def State.setResult (s : State) (r : LoaderResult) : State :=
  { s with loader := { s.loader with result := r } }

/-- The state once a part of its load is done, at the stage that follows, with its summary word and line (R161). -/
def State.partDone (s : State) (stage : LoadStage) : State :=
  State.notify { s with loader := { s.loader with stage := stage } }

/-- Entry `n` of the Profile module (12, Flash module bodies). -/
def profileEntry (body : List Word16) (n : Nat) : ProfileRequest where
  profile := flashWord body (19 * n)
  kind := flashWord body (19 * n + 1)
  points := some ((List.range 17).map (fun k => flashWord body (19 * n + 2 + k)))

/-- Entry `n` of the Profile module applied as a PROFILE_WRITE and counted (R165, R116). -/
def State.applyProfileEntry (body : List Word16) (s : State) (n : Nat) : State :=
  let res := tryProfileWrite (profileEntry body n) s
  res.1.setResult (s.loader.result.addProfile res.2)

/-- The Profile module applied (R165, R116). -/
def State.applyProfiles (s : State) (body : List Word16) : State :=
  (List.range (body.length / 19)).foldl (State.applyProfileEntry body) s

/-- A word of a Feed entry: 0xFFFF gives the field its reset value (R166). -/
def feedField (w default : Nat) : Nat := if w = 65535 then default else w

/-- Entry `f` of the Feed module as a FEED_SET's setting (R166). -/
def feedEntry (body : List Word16) (f : Nat) : FeedRequest where
  feed := f
  standard := flashWord body (5 * f)
  profile := feedField (flashWord body (5 * f + 1)) 0
  trackSlot := feedField (flashWord body (5 * f + 2)) 2
  freeze := feedField (flashWord body (5 * f + 3)) 0 != 0
  threshold := BitVec.ofNat 16 (feedField (flashWord body (5 * f + 4)) 2048)

/-- Entry `f` of the Feed module applied as a FEED_SET and counted (R166): an entry that the body does not cover
whole, or whose standard word is 0xFFFF, is absent. -/
def State.applyFeedEntry (body : List Word16) (s : State) (f : Nat) : State :=
  if 5 * f + 5 ≤ body.length ∧ flashWord body (5 * f) ≠ 65535 then
    let res := tryFeedSet (feedEntry body f) s
    res.1.setResult (s.loader.result.addFeed res.2)
  else s

/-- The Feed module applied (R166). -/
def State.applyFeeds (s : State) (body : List Word16) : State :=
  (List.range 8).foldl (State.applyFeedEntry body) s

/-- Preset `n` of the Preset module (R167): absent when the body does not cover it whole or its feed word is 0xFFFF. -/
def presetEntry (body : List Word16) (n : Nat) : Option Preset :=
  if 35 * n + 35 ≤ body.length ∧ flashWord body (35 * n) ≠ 65535 then some (presetOfFlash body (35 * n)) else none

/-- The Preset module applied (R167). -/
def State.applyPresets (s : State) (body : List Word16) : State :=
  { s with presets := Vector.ofFn (fun n : Fin 16 => presetEntry body n.val) }

/-! ## Opening presets (R168) -/

/-- The presets that AUTOSTART opens, in ascending start order, lower numbers first (R168). -/
def autostartOrder (presets : Vector (Option Preset) 16) : List PresetId :=
  (List.range 16).flatMap (fun o =>
    (List.finRange 16).filter (fun n => (tget presets n).any (fun p => p.startOrder == o + 1)))

/-- The presets a load opens once its modules are applied (R168). -/
def State.openingOrder (s : State) : List PresetId :=
  if s.loader.autostart then autostartOrder s.presets else []

/-- One preset opened through the checks of ROUTE_OPEN and counted (R168). -/
def State.openPreset (s : State) (n : PresetId) : State :=
  match tget s.presets n with
  | none => s
  | some p =>
    let res := tryOpen p.request s
    res.1.setResult (s.loader.result.addOpening n res.2.status)

/-! ## The parts of a load (R164, R165, R168) -/

/-- One module of the image applied (R165). -/
def State.applyModule (s : State) (m : ModuleId) : State :=
  match m with
  | .house => s.applyHouse (s.loader.body .house)
  | .track => s.applyTrack (s.loader.body .track)
  | .profile => s.applyProfiles (s.loader.body .profile)
  | .feed => s.applyFeeds (s.loader.body .feed)
  | .preset => s.applyPresets (s.loader.body .preset)

/-- The image tested (R164): its modules are next, or it is ignored. -/
def State.testImage (s : State) : State :=
  if s.loader.sum = 0x6D2B then (s.setResult LoaderResult.cleared).partDone (.applying s.loader.modules)
  else s.partDone (.stopped .checksum)

/-- The modules applied (R165): the presets' openings are next. -/
def State.beginOpenings (s : State) : State :=
  s.partDone (.opening s.openingOrder)

/-- The next part of a load done while no command waits: the test of the image, one module applied, the openings'
order formed, or one preset opened. The rules order these and give each its effect; that events from outside are taken
between two of them is the model's reading (DESIGN CHOICE, log 15). With no part left nothing happens (log 4). -/
def State.loadPart (s : State) : State :=
  match s.loader.stage with
  | .complete => s.testImage
  | .applying (m :: left) => (s.applyModule m).partDone (.applying left)
  | .applying [] => s.beginOpenings
  | .opening (n :: left) => (s.openPreset n).partDone (.opening left)
  | .opening [] => s
  | .stopped _ => s
  | .none => s
  | .header => s
  | .length _ _ => s
  | .body _ _ => s

/-- The openings left, one after the other (R168). -/
def openAll : List PresetId → State → State
  | [], s => s
  | n :: left, s => openAll left ((s.openPreset n).partDone (.opening left))

/-- The modules left, one after the other (R165), and the openings after them (R168). -/
def applyAll : List ModuleId → State → State
  | [], s => openAll s.openingOrder s.beginOpenings
  | m :: left, s => applyAll left ((s.applyModule m).partDone (.applying left))

/-- The modules and openings left of an accepted image. -/
def State.restOfImage (s : State) : State :=
  match s.loader.stage with
  | .applying left => applyAll left s
  | .opening left => openAll left s
  | .complete => s
  | .stopped _ => s
  | .none => s
  | .header => s
  | .length _ _ => s
  | .body _ _ => s

/-- Every part of a load that is left, one after the other. -/
def State.restOfLoad (s : State) : State :=
  if s.loader.stage = .complete then s.testImage.restOfImage else s.restOfImage

/-! ## The end of a load (R165, R170) -/

/-- The loader result of an accepted image, whose counts are made (R170). -/
def Loader.doneResult (l : Loader) : LoaderResult :=
  { l.result with
    outcome := .done
    cause := none
    version := l.header[1]?
    modules := l.bodies.map Prod.fst
    autostart := l.autostart }

/-- The loader result of an ignored image (R164, R170). -/
def Loader.failResult (l : Loader) (cause : LoadCause) : LoaderResult :=
  { LoaderResult.cleared with
    outcome := .fail
    cause := some cause
    version := if cause = .signature then none else l.header[1]?
    modules := l.bodies.map Prod.fst
    autostart := l.autostart }

/-- The loader after a load (R170). -/
def Loader.finish (l : Loader) (result : LoaderResult) : Loader :=
  { l with stage := .none, header := [], bodies := [], result := result }

/-- The result completed and the event raised once every part of the load is done (R170). -/
def State.concludeLoad (s : State) : State :=
  match s.loader.stage with
  | .stopped cause =>
    { s with loader := s.loader.finish (s.loader.failResult cause), device := s.device.raise .loadFail }
  | _ => { s with loader := s.loader.finish s.loader.doneResult, device := s.device.raise .loadDone }

/-- Both timelines start at a tick (R10). -/
def State.startTimelines (s : State) (tick : Tick) : State :=
  { s with timelineA := s.timelineA.start tick, timelineB := s.timelineB.start tick }

/-- The end of a load (R170), what is left of it done first: after a power-on load both timelines start, and the
Command Unit leaves LOADING and evaluates the ring. -/
def State.endLoad (s : State) (tick : Tick) : State :=
  let s1 := s.restOfLoad.concludeLoad
  let s2 := if s.loader.powerOn then s1.startTimelines tick else s1
  { s2 with cu := { s2.cu with state := .idle } }.evaluate

/-- FLASH_READ (R163): a transaction, with the words the flash returned or none when it failed. -/
def execFlashRead (words : Option (List Word16)) (s : State) : Host.Outcome State Fault Refusal :=
  .next { s with loader := s.loader.read words }

/-- LOAD_END (R170). It comes when the reading has ended (log 3). -/
def execLoadEnd (tick : Tick) (s : State) : Host.Outcome State Fault Refusal :=
  .next (if s.loader.readingDone then (s.endLoad tick).notify else s)

end Sys2Proof.Machine
end

