-- ==== Sys2Proof/Machine/Dispatch.lean ====
section
/-! DEFINITION. The dispatch of a command to its meaning: one arm for each row of spec/opcode_table.json. -/

namespace Sys2Proof.Machine

def exec (i : Instr) (s : State) : Host.Outcome State Fault Refusal :=
  match i with
  | .powerOnReset autostart => Sys2Proof.Machine.execPowerOnReset autostart s
  | .controlReset => Sys2Proof.Machine.execControlReset s
  | .ringReset => Sys2Proof.Machine.execRingReset s
  | .commandWriteIndexWrite value => Sys2Proof.Machine.execCommandWriteIndexWrite value s
  | .replyReadIndexWrite value => Sys2Proof.Machine.execReplyReadIndexWrite value s
  | .controlWindowWrite address value => Sys2Proof.Machine.execControlWindowWrite address value s
  | .routeOpen => Sys2Proof.Machine.execRouteOpen s
  | .routeAlter => Sys2Proof.Machine.execRouteAlter s
  | .routeClose => Sys2Proof.Machine.execRouteClose s
  | .routeRead => Sys2Proof.Machine.execRouteRead s
  | .routeHold => Sys2Proof.Machine.execRouteHold s
  | .routeRelease => Sys2Proof.Machine.execRouteRelease s
  | .routeTrim => Sys2Proof.Machine.execRouteTrim s
  | .presetOpen => Sys2Proof.Machine.execPresetOpen s
  | .feedSet => Sys2Proof.Machine.execFeedSet s
  | .feedRead => Sys2Proof.Machine.execFeedRead s
  | .trackSet => Sys2Proof.Machine.execTrackSet s
  | .profileWrite => Sys2Proof.Machine.execProfileWrite s
  | .profileRead => Sys2Proof.Machine.execProfileRead s
  | .timelineSet tick => Sys2Proof.Machine.execTimelineSet tick s
  | .timelineRead => Sys2Proof.Machine.execTimelineRead s
  | .portSet => Sys2Proof.Machine.execPortSet s
  | .portMute => Sys2Proof.Machine.execPortMute s
  | .referenceSet => Sys2Proof.Machine.execReferenceSet s
  | .monitorSet => Sys2Proof.Machine.execMonitorSet s
  | .checkSet => Sys2Proof.Machine.execCheckSet s
  | .eventsTake => Sys2Proof.Machine.execEventsTake s
  | .notifySet => Sys2Proof.Machine.execNotifySet s
  | .deviceRead => Sys2Proof.Machine.execDeviceRead s
  | .referencePulse tick => Sys2Proof.Machine.execReferencePulse tick s
  | .referenceAbsence => Sys2Proof.Machine.execReferenceAbsence s
  | .outputBoundary timeline => Sys2Proof.Machine.execOutputBoundary timeline s
  | .outputLine output => Sys2Proof.Machine.execOutputLine output s
  | .pictureStart feed tick bottom => Sys2Proof.Machine.execPictureStart feed tick bottom s
  | .activeLine feed pels => Sys2Proof.Machine.execActiveLine feed pels s
  | .ancillaryPacket feed packet => Sys2Proof.Machine.execAncillaryPacket feed packet s
  | .pictureTimecode feed timecode => Sys2Proof.Machine.execPictureTimecode feed timecode s
  | .pictureEnd feed => Sys2Proof.Machine.execPictureEnd feed s
  | .silenceExpiry feed => Sys2Proof.Machine.execSilenceExpiry feed s
  | .flashRead words => Sys2Proof.Machine.execFlashRead words s
  | .loadEnd tick => Sys2Proof.Machine.execLoadEnd tick s

end Sys2Proof.Machine
end

