-- ==== Sys2Proof/Safety.lean ====
section
/-! DEFINITION. What the claims speak of: the invariants of the part, each from a numbered rule of the reference, and
what stands after a ring command has been taken. -/

namespace Sys2Proof.Machine

/-! ## After a take (R152, R161) -/

/-- The summary word and the notification line are those that R161 gives for the pending sets, the masks and the
global enable. -/
def State.SummaryOk (s : State) : Prop :=
  s.device.summary = summaryWord s.routes s.feeds s.device ∧
  s.device.line = (s.device.enable && s.device.summary != 0)

/-- What the Command Unit and the device scope hold after command `c` was taken in `s` with reply `r`: `d` is the device
scope as the command's own effect leaves it. The reply is written and the indices are advanced (R152), the ring is
evaluated afresh (R151), which alone may raise CMD_FAULT (R154), and the summary word and the line follow (R161). -/
structure Taken (s t : State) (d : Device) (c : Command) (r : Reply) : Prop where
  cu         : t.cu = (s.cu.reply c r).settle (s.cu.reply c r).judge
  events     : t.device.events = ((s.cu.reply c r).judge.raises d).events
  retired    : t.device.retired = d.retired
  routeMask  : t.device.routeMask = d.routeMask
  feedMask   : t.device.feedMask = d.feedMask
  deviceMask : t.device.deviceMask = d.deviceMask
  enable     : t.device.enable = d.enable
  summary    : t.SummaryOk

/-- The command that takes a ring command of a kind; TIMELINE_SET is taken at a tick. -/
def ringInstr (tick : Tick) : CmdKind → Instr
  | .routeOpen => .routeOpen
  | .routeAlter => .routeAlter
  | .routeClose => .routeClose
  | .routeRead => .routeRead
  | .routeHold => .routeHold
  | .routeRelease => .routeRelease
  | .routeTrim => .routeTrim
  | .presetOpen => .presetOpen
  | .feedSet => .feedSet
  | .feedRead => .feedRead
  | .trackSet => .trackSet
  | .profileWrite => .profileWrite
  | .profileRead => .profileRead
  | .timelineSet => .timelineSet tick
  | .timelineRead => .timelineRead
  | .portSet => .portSet
  | .portMute => .portMute
  | .referenceSet => .referenceSet
  | .monitorSet => .monitorSet
  | .checkSet => .checkSet
  | .eventsTake => .eventsTake
  | .notifySet => .notifySet
  | .deviceRead => .deviceRead

/-- The kinds whose command names a route by a handle in its first word (R56). EVENTS_TAKE names one in a route scope. -/
def namesRoute : CmdKind → Bool
  | .routeAlter | .routeClose | .routeRead | .routeHold | .routeRelease | .routeTrim | .checkSet => true
  | .routeOpen | .presetOpen | .feedSet | .feedRead | .trackSet | .profileWrite | .profileRead | .timelineSet
  | .timelineRead | .portSet | .portMute | .referenceSet | .monitorSet | .eventsTake | .notifySet | .deviceRead => false

/-- The first failing check of a list of checks with their statuses, or OK (R157). -/
def firstFailure (checks : List (Bool × Status)) : Status :=
  match checks.find? (fun x => !x.1) with
  | some x => x.2
  | none => .ok

/-- A command of the block's own inputs leaves the device scope with these pending events and everything else as it was;
the summary word and the line follow (R161). -/
structure Notified (s t : State) (events : BitVec 5) : Prop where
  device  : t.device = { s.device with events := events, summary := t.device.summary, line := t.device.line }
  summary : t.SummaryOk

/-- The stage that the reading of an image enters for the modules still to be read: the length word of the first one whose
pointer in the header makes it present, or the reading's end (R163). -/
def firstPresent (header : List Word16) (modules : List ModuleId) : LoadStage :=
  match modules.find? (fun m => flashWord header m.pointerWord != 0 && flashWord header m.pointerWord != 0xFFFF) with
  | some m => .length m (flashWord header m.pointerWord)
  | none => .complete

/-! ## Invariants -/

/-- The laws of a route's window and phase (R91, R90, R77): the phase lies between its two ends, the window holds at
most 4 entries, a RUNNING route has at least 2 and a PRIMING one at most 1, and the states that take no pictures have
none. -/
structure Route.WindowOk (r : Route) : Prop where
  low     : -262144 ≤ r.phase
  high    : r.phase ≤ 196607
  length  : r.window.length ≤ 4
  running : r.state = .running → 2 ≤ r.window.length
  priming : r.state = .priming → r.window.length ≤ 1
  resting : r.state = .starved ∨ r.state = .lapsed ∨ r.state = .closing ∨ r.state = .free → r.window = []

/-- Every route's window and phase obey their laws. -/
def State.WindowsOk (s : State) : Prop :=
  ∀ i, (s.route i).WindowOk

/-- The laws of route counts and ports (R57): a feed's route count is the number of live records that name it, and no
two live records name one port. -/
structure State.CountsOk (s : State) : Prop where
  counts : ∀ f, (s.feed f).routeCount =
    (List.finRange 16).countP (fun i => (s.route i).state.live && (s.route i).feed == f)
  ports  : ∀ i j, (s.route i).state.live = true → (s.route j).state.live = true →
    (s.route i).port = (s.route j).port → i = j

/-- The laws of a feed record (R22, R26, R32): the state is UNCONFIGURED exactly without a standard; E of a configured
feed stays within a sixteenth of nominal, and is nominal while the profile is NOMINAL; the runs keep their ranges; the
last start is present, so the silence timer runs, exactly in ACQUIRE, LOCKED and MISMATCH; a picture is in flight, and a
measurement is pending, only there. -/
structure Feed.RecordOk (f : Feed) : Prop where
  unconfigured : f.standard = none ↔ f.state = .unconfigured
  periodNone   : f.standard = none → f.period = 0
  period       : ∀ st, f.standard = some st →
    256 * (st.nominal - st.nominal / 16) ≤ f.period ∧ f.period ≤ 256 * (st.nominal + st.nominal / 16)
  nominal      : ∀ st, f.standard = some st → f.profile = .nominal → f.period = 256 * st.nominal
  goodRun      : f.goodRun ≤ 4
  rejectRun    : f.rejectRun ≤ 3
  badRun       : f.badRun ≤ 8
  lastStart    : f.lastStart.isSome ↔ f.state = .acquire ∨ f.state = .locked ∨ f.state = .mismatch
  flight       : f.inFlight = true → f.lastStart.isSome
  measurement  : f.measurement.isSome → f.inFlight = true

/-- Every feed record obeys its laws. -/
def State.FeedsOk (s : State) : Prop :=
  ∀ f, (s.feed f).RecordOk

/-- The laws of a timeline (R10, R11, R17): its timecodes are valid for its standard, its next parity is one of its
standard, a TOP picture of an interlaced standard has pair flag 0 and a BOTTOM one pair flag 1, and a next boundary is
present exactly while it is RUNNING. -/
structure Timeline.ClockOk (tl : Timeline) : Prop where
  next    : tl.standard.validTimecode tl.nextTimecode = true
  current : ∀ tc, tl.currentTimecode = some tc → tl.standard.validTimecode tc = true
  parity  : tl.standard.interlaced = true ↔ tl.nextParity ≠ .frame
  pairing : tl.standard.interlaced = true → (tl.nextTimecode.pair = true ↔ tl.nextParity = .bottom)
  running : tl.state = .running ↔ tl.nextBoundary.isSome

/-- Both timelines obey their laws. -/
def State.TimelinesOk (s : State) : Prop :=
  ∀ t, (s.timeline t).ClockOk

/-- A profile's curve, if it has one, is valid (R110, R116). -/
def Profile.CurveOk (p : Profile) : Prop :=
  ∀ points, p = .curve points → curveValid points = true

/-- The laws of the Profile Table, of the routes' settings and of the presets they are opened from (R110, R116, R53, R58,
R127, R167): every curve is valid and the built-in profiles hold their contents; a live route names a profile that is not
EMPTY; every setting has a trim of 0 to 99, a hold limit of 0 to 65,535, a retire limit of 1 to 65,535 if any, and a map
list of at most 8 entries with no two keys equal and every key's family 1 to 255; and a filled preset has a start order of
0 to 16, limits of 16 bits and map entries of 8-bit kinds. -/
structure State.ProfilesOk (s : State) : Prop where
  curves  : ∀ i, (s.profile i).CurveOk
  builtIn : ∀ i : ProfileId, i.val < 4 → s.profile i = tget profilesReset i
  named   : ∀ i, (s.route i).state.live = true → s.profile (s.route i).setting.profile ≠ .empty
  trim    : ∀ i, (s.route i).setting.trim ≤ 99
  mapList : ∀ i, (s.route i).setting.mapList.length ≤ 8
  mapKeys : ∀ i, ((s.route i).setting.mapList.map MapEntry.key).Nodup ∧
    ∀ e ∈ (s.route i).setting.mapList, e.key.family ≠ 0
  limits  : ∀ i, (s.route i).setting.holdLimit ≤ 65535 ∧
    ∀ l, (s.route i).setting.retireLimit = some l → 1 ≤ l ∧ l ≤ 65535
  presets : ∀ n p, tget s.presets n = some p →
    p.startOrder ≤ 16 ∧ p.request.holdLimit ≤ 65535 ∧ p.request.retireLimit ≤ 65535 ∧
    ∀ e ∈ p.request.entries, e.kind ≤ 255

/-- An ancillary list holds at most 16 packets, none of family 0 (R19, R131). -/
def PacketsOk (l : List Packet) : Prop :=
  l.length ≤ 16 ∧ ∀ p ∈ l, p.key.family ≠ 0

/-- Every ancillary list of the part is within its bounds (R19, R38, R120, R131, R143). -/
structure State.ListsOk (s : State) : Prop where
  feedPorts : ∀ f, PacketsOk (s.feedPort f).packets
  slots     : ∀ i, PacketsOk (s.slot i).packets
  ports     : ∀ p, PacketsOk (s.port p).packets
  monitor   : PacketsOk s.monitor.packets

/-- The laws of the Command Unit (R150, R154, R155, R163): the fault word holds a fault exactly in FAULT, and the CU is
in LOADING exactly while a load is running. -/
structure State.CommandUnitOk (s : State) : Prop where
  fault   : s.cu.fault.isSome ↔ s.cu.state = .fault
  loading : s.cu.state = .loading ↔ s.loader.stage ≠ .none

/-- The monitor has a latest or a pair only in a feed view, and shows a picture only from its pair (R143, R145). -/
structure State.MonitorOk (s : State) : Prop where
  latest  : s.monitor.latest.isSome → ∃ f t, s.monitor.view = .feed f t
  pair    : s.monitor.pair.isSome → ∃ f t, s.monitor.view = .feed f t
  picture : s.monitor.content = .picture → s.monitor.pair.isSome

/-- The slots a route's window holds. -/
def Route.heldSlots (r : Route) : List SlotId := r.window.map WindowEntry.slot

/-- How many windows contain a slot, plus one if it is the monitor's latest (R47). -/
def State.holders (s : State) (i : SlotId) : Nat :=
  ((List.finRange 16).map (fun r => (s.route r).heldSlots.count i)).sum + s.monitor.latest.toList.count i

/-- How many output pairs contain a slot, plus one if it is in the monitor's pair (R48). -/
def State.users (s : State) (i : SlotId) : Nat :=
  ((List.finRange 16).map (fun r => (pairList (s.route r).pair).count i)).sum + s.monitor.pair.toList.count i

/-- The laws of the slot counts (R38, R47, R48, R49): a slot's hold and pin counts are the numbers of its holders and
users, both 0 in FREE and WRITING and not both 0 in READY; the WRITING slots are the feeds' writing slots, each one of its
feed's own; a window and a pair hold a slot once; a FREE record has no pair and a record that is neither FREE nor live no
window. -/
structure State.SlotsOk (s : State) : Prop where
  hold    : ∀ i, (s.slot i).hold = s.holders i
  pin     : ∀ i, (s.slot i).pin = s.users i
  ready   : ∀ i, (s.slot i).state = .ready ↔ 0 < (s.slot i).hold + (s.slot i).pin
  writing : ∀ i, (s.slot i).state = .writing ↔ ∃ f, (s.feed f).writing = some i
  own     : ∀ f i, (s.feed f).writing = some i → i.val / 16 = f.val ∧ (s.feed f).inFlight = true
  once    : ∀ r, (s.route r).heldSlots.Nodup ∧ (pairList (s.route r).pair).Nodup
  vacant  : ∀ r, (s.route r).state.live = false → (s.route r).window = []
  free    : ∀ r, (s.route r).state = .free → (s.route r).pair = none

end Sys2Proof.Machine
end

