-- ==== Sys2Proof/Certificates/Slice0/Obligations.lean ====
section
/-! DEFINITION. The statements about the Dorchel 816 that the provers prove. Those about a ring command say that its
taking answers a next state, what the owning block's state becomes (every field that the record update does not name is
as it was) and, through `Taken`, which reply is written. -/

open Sys2Proof Sys2Proof.Machine

/-! ## The step, the reset and the rings -/

/-- A step takes the command at the front of the queue, and its outcome is that of the command with the queue's rest. On
an empty queue the block idles, unless a load has a part left to do (the model's choice, logs 4 and 15; what the
parts do is in AcceptedLoadsApplyTheModules). -/
def Obligations.StepTakesFrontCommand : Prop :=
  ∀ s : State,
    (∀ (c : Instr) (rest : List Instr), s.pending = c :: rest → step s = exec c { s with pending := rest }) ∧
    (s.pending = [] → s.loader.stage ≠ .complete → (∀ left, s.loader.stage ≠ .applying left) →
      (∀ n left, s.loader.stage ≠ .opening (n :: left)) → step s = .next s)

/-- Every invariant of the part holds right after power-on reset. The values of State.reset that the reference does
not give are the model's (logs 7, 9, 10, 11, 17, 24). -/
def Obligations.ResetMeetsInvariants : Prop :=
  Memory.wf State.reset.dram ∧ State.reset.WindowsOk ∧ State.reset.CountsOk ∧ State.reset.FeedsOk ∧
  State.reset.TimelinesOk ∧ State.reset.ProfilesOk ∧ State.reset.ListsOk ∧ State.reset.MonitorOk ∧
  State.reset.SummaryOk ∧ State.reset.CommandUnitOk ∧ State.reset.SlotsOk

/-- The values that the reference gives for power-on (R4, R10, R22, R33, R39, R55, R116, R120, R143, R148, R150, R158,
R160, R167, R170). -/
def Obligations.PowerOnValues : Prop :=
  (State.reset.reference.family = .fifty ∧ State.reset.reference.mode = .auto ∧
    State.reset.reference.source = .internal ∧ State.reset.reference.lastPulse = none ∧
    State.reset.reference.goodRun = 0 ∧ State.reset.reference.badPulses = 0) ∧
  (State.reset.timelineA.standard = .h50i ∧ State.reset.timelineB.standard = .h5994i ∧
    ∀ t, (State.reset.timeline t).state = .stopped ∧ (State.reset.timeline t).nextBoundary = none ∧
      (State.reset.timeline t).counter = 0 ∧ (State.reset.timeline t).nextParity = .top ∧
      (State.reset.timeline t).currentTimecode = none ∧
      (State.reset.timeline t).nextTimecode =
        { hours := 0, minutes := 0, seconds := 0, frame := 0,
          drop := (State.reset.timeline t).standard.drop, pair := false }) ∧
  State.reset.trackK.toList = [8, 64, 256, 1024, 4096] ∧
  (∀ f, State.reset.feed f =
    { standard := none, profile := .track, trackSlot := 2, freeze := false, threshold := 2048, state := .unconfigured,
      period := 0, lastStart := none, inFlight := false, measurement := none, goodRun := 0, rejectRun := 0,
      badRun := 0, routeCount := 0, nextSeq := 0, writing := none, pictures := 0, runts := 0, rejects := 0,
      damaged := 0, overruns := 0, events := 0 } ∧ (State.reset.feedPort f).refs = []) ∧
  (∀ i, State.reset.slot i =
    { state := .free, seq := 0, standard := none, parity := .frame, timecode := none, packets := [], hold := 0,
      pin := 0 }) ∧
  (∀ i, (State.reset.route i).state = .free ∧ (State.reset.route i).generation = 0 ∧
    (State.reset.route i).picture = none) ∧
  (∀ i : ProfileId, State.reset.profile i =
    if i = 0 then .curve [0, 4, 8, 12, 16, 20, 24, 28, 32, 36, 40, 44, 48, 52, 56, 60, 64]
    else if i = 1 then .curve [0, 0, 0, 0, 0, 0, 4, 16, 32, 48, 60, 64, 64, 64, 64, 64, 64]
    else if i = 2 then .curve [0, 1, 3, 6, 10, 15, 21, 27, 32, 37, 43, 49, 54, 58, 61, 63, 64]
    else if i = 3 then .snap else .empty) ∧
  (∀ p : PortId, (State.reset.port p).timeline = (if p.val < 4 then .a else .b) ∧ (State.reset.port p).mute = false ∧
    (State.reset.port p).content = .black ∧ (State.reset.port p).timecode = none ∧ (State.reset.port p).packets = []) ∧
  (State.reset.monitor.view = .off ∧ State.reset.monitor.latest = none ∧ State.reset.monitor.pair = none ∧
    State.reset.monitor.content = .black ∧ State.reset.monitor.packets = [] ∧ State.reset.monitor.timecode = none ∧
    State.reset.monitor.picture = none) ∧
  (State.reset.cu.state = .loading ∧ State.reset.cu.cmdWrite = 0 ∧ State.reset.cu.cmdRead = 0 ∧
    State.reset.cu.replyWrite = 0 ∧ State.reset.cu.replyRead = 0 ∧ State.reset.cu.commandSpace = 1023 ∧
    State.reset.cu.fault = none) ∧
  (State.reset.device.events = 0 ∧ State.reset.device.retired = 0 ∧ State.reset.device.routeMask = 0xFF ∧
    State.reset.device.feedMask = 0xF ∧ State.reset.device.deviceMask = 0x1F ∧ State.reset.device.enable = false ∧
    State.reset.device.summary = 0 ∧ State.reset.device.line = false) ∧
  State.reset.loader.result.outcome = .none ∧ (∀ n, tget State.reset.presets n = none)

/-- The reply stands whole in the reply ring from the old reply write index (R152): its header word first, which holds
the kind, the tag, the status and the length, then its payload; the other words of the ring are as they were; and both
indices have moved on by the reply's and the command's length. -/
def Obligations.ReplyIsWrittenWhole : Prop :=
  ∀ (cu : CommandUnit) (c : Command) (r : Reply), r.payload.length ≤ 511 → c.tag < 256 → c.length < 256 →
    bits (tget (cu.reply c r).replyRing cu.replyWrite) 0 8 = kindCode c.kind ∧
    bits (tget (cu.reply c r).replyRing cu.replyWrite) 8 8 = c.tag ∧
    bits (tget (cu.reply c r).replyRing cu.replyWrite) 16 8 = r.status.code ∧
    bits (tget (cu.reply c r).replyRing cu.replyWrite) 24 8 = (r.payload.length + 1) % 256 ∧
    (∀ n w, r.payload[n]? = some w →
      tget (cu.reply c r).replyRing (cu.replyWrite + Fin.ofNat 512 (n + 1)) = w) ∧
    (∀ n, r.payload.length + 1 ≤ n → n < 512 →
      tget (cu.reply c r).replyRing (cu.replyWrite + Fin.ofNat 512 n) =
        tget cu.replyRing (cu.replyWrite + Fin.ofNat 512 n)) ∧
    (cu.reply c r).replyWrite.val = (cu.replyWrite.val + (r.payload.length + 1)) % 512 ∧
    (cu.reply c r).cmdRead.val = (cu.cmdRead.val + c.length) % 1024 ∧
    (cu.reply c r).cmdRing = cu.cmdRing ∧ (cu.reply c r).cmdWrite = cu.cmdWrite ∧
    (cu.reply c r).replyRead = cu.replyRead ∧ (cu.reply c r).fault = cu.fault

/-- Every due ring command is taken and answered, and one that is refused changes nothing outside the Command Unit and
its reply is its status alone, except REFERENCE_SET's (R153, R157, R9). -/
def Obligations.RefusedCommandsChangeNothing : Prop :=
  ∀ (s : State) (c : Command) (tick : Tick), s.dueCommand = some c →
    ∃ t d r, exec (ringInstr tick c.kind) s = .next t ∧ Taken s t d c r ∧
      (r.status ≠ .ok → t = { s with cu := t.cu, device := t.device } ∧ d = s.device) ∧
      (r.status ≠ .ok → c.kind ≠ .referenceSet → r.payload = []) ∧
      (c.kind = .referenceSet → r.payload.length = 1)

/-- A command that names a route by a handle that is not valid is refused with STALE and changes nothing (R56): the
record at the handle's index is not live, or its generation is not the handle's. -/
def Obligations.StaleHandlesAreRefused : Prop :=
  ∀ (s : State) (c : Command) (tick : Tick) (h : Nat) (i : RouteId), s.dueCommand = some c →
    (namesRoute c.kind = true ∧ h = bits (arg c.args 1) 0 8) ∨
      (c.kind = .eventsTake ∧ bits (arg c.args 1) 0 8 = 0 ∧ h = bits (arg c.args 1) 8 8) →
    i.val = h % 16 →
    (s.route i).state = .free ∨ (s.route i).state = .closing ∨ (s.route i).generation.val ≠ h / 16 →
    ∃ t, exec (ringInstr tick c.kind) s = .next t ∧ t = { s with cu := t.cu, device := t.device } ∧
      Taken s t s.device c { status := .stale, payload := [] }

/-- A power-on reset puts every block at its power-on values, begins the power-on load, samples the AUTOSTART pin and
keeps the stacked DRAM (R39, R165, R168); nothing is said of the count behind the tick's free frequency (log 6). A
control reset outside LOADING puts the blocks at their control-reset values and begins a load; the Reference Unit, the
timelines, the port assignment, the AUTOSTART sample and the DRAM are kept, and a live record's generation advances
(R55, R156). During LOADING it is ignored. The model's choices in it: a control reset keeps the ring words, the pins'
last lines and the standard of the lines not yet sent (logs 9, 11, 29), and a framing port and a FREE record return to
State.reset's values (logs 17, 24). -/
def Obligations.ResetsRestoreTheBlocks : Prop :=
  (∀ (s : State) (pin : Bool), ∃ t, exec (.powerOnReset pin) s = .next t ∧
    t = { State.reset with
      reference := { State.reset.reference with steers := t.reference.steers }
      loader := { State.reset.loader with autostart := pin }, dram := s.dram, pending := s.pending }) ∧
  (∀ s : State, s.cu.state = .loading → exec .controlReset s = .next s) ∧
  (∀ s : State, s.cu.state ≠ .loading →
    ∃ t, exec .controlReset s = .next t ∧
      t = { State.reset with
        reference := s.reference, timelineA := s.timelineA, timelineB := s.timelineB, dram := s.dram
        routes := t.routes, ports := t.ports, monitor := t.monitor, pending := s.pending
        cu := { State.reset.cu with cmdRing := s.cu.cmdRing, replyRing := s.cu.replyRing }
        loader := { State.reset.loader with powerOn := false, autostart := s.loader.autostart } } ∧
      t.monitor = { State.reset.monitor with standard := s.monitor.standard, lineOut := s.monitor.lineOut } ∧
      (∀ p, t.port p = { State.reset.port p with
        timeline := (s.port p).timeline, standard := (s.port p).standard, lineOut := (s.port p).lineOut }) ∧
      (∀ i, t.route i = { State.reset.route i with
        generation := if (s.route i).state.live then (s.route i).generation + 1 else (s.route i).generation }))

/-- A ring reset clears the four indices and the fault word and leaves the CU in IDLE, or in LOADING during a load; it
changes nothing else in the part (R155), nor the summary word, which R148's table has 0 after it (the model's choice, log
33). A write of the control word with bit 0 set and bit 1 clear is one, and the bits read back as 0. What the control
window reads (R148, R149, R150, R154, R171): the rings' words, the indices, with 0xFFFF for the read index and 0 for the
command space in FAULT, the CU's state in bits 8 to 10, the summary word, the fault word and 0 past 0x607; the model's own
instant before a take reads as IDLE (log 1). -/
def Obligations.RingResetClearsTheRings : Prop :=
  (∀ s : State, exec .ringReset s =
    .next { s with cu := { s.cu with
      cmdWrite := 0, cmdRead := 0, replyWrite := 0, replyRead := 0, fault := none
      state := if s.cu.state = .loading then .loading else .idle } }) ∧
  (∀ (s : State) (value : Word), s.SummaryOk → bit value 0 = true → bit value 1 = false →
    exec (.controlWindowWrite 0x605 value) s = exec .ringReset s) ∧
  (∀ (s : State), bit (s.windowRead 0x605) 0 = false ∧ bit (s.windowRead 0x605) 1 = false) ∧
  (∀ (s : State) (a : BitVec 11),
    (∀ n : Fin 1024, a.toNat = n.val → s.windowRead a = tget s.cu.cmdRing n) ∧
    (∀ n : Fin 512, a.toNat = 1024 + n.val → s.windowRead a = tget s.cu.replyRing n) ∧
    (a = 0x600 → (s.windowRead a).toNat = s.cu.cmdWrite.val) ∧
    (a = 0x601 → (s.windowRead a).toNat = if s.cu.state = .fault then 0xFFFF else s.cu.cmdRead.val) ∧
    (a = 0x602 → (s.windowRead a).toNat = s.cu.replyWrite.val) ∧
    (a = 0x603 → (s.windowRead a).toNat = s.cu.replyRead.val) ∧
    (a = 0x604 → (s.windowRead a).toNat =
      if s.cu.state = .fault then 0 else (s.cu.cmdRead.val + 1024 - s.cu.cmdWrite.val + 1023) % 1024) ∧
    (∀ code, a = 0x605 →
      (s.cu.state, code) ∈
        [(CuState.loading, 0), (.idle, 1), (.takeDue, 1), (.waitData, 2), (.waitReply, 3), (.fault, 4)] →
      (s.windowRead a).toNat = 256 * code) ∧
    (a = 0x606 → s.windowRead a = s.device.summary) ∧
    (a = 0x607 → s.cu.fault = none → s.windowRead a = 0) ∧
    (∀ w, a = 0x607 → s.cu.fault = some w →
      (s.windowRead a).toNat = (if w.cause = .unknownKind then 1 else 2) + 4 * w.index.val + 65536 * w.kind.toNat +
        16777216 * w.length.toNat) ∧
    (0x608 ≤ a.toNat → s.windowRead a = 0))

/-- A write of an index takes a value below the ring's size and ignores any other (R148); outside LOADING and FAULT
the ring is then evaluated in the order of R151: an empty ring gives IDLE, a malformed header FAULT with its fault
word and CMD_FAULT (R154), too few words WAIT_DATA, too little reply space WAIT_REPLY, and otherwise a take is due
(the model's own state between an evaluation and its take, log 1). In LOADING and FAULT nothing is evaluated. That an
ignored value still has the ring evaluated is DEDUCED (log 21). -/
def Obligations.IndexWritesEvaluateTheRing : Prop :=
  ∀ (s : State) (value : Word) (ins : Instr) (cu : CommandUnit), s.SummaryOk →
    (ins = .commandWriteIndexWrite value ∧
      cu = { s.cu with cmdWrite := if value.toNat < 1024 then Fin.ofNat 1024 value.toNat else s.cu.cmdWrite }) ∨
    (ins = .replyReadIndexWrite value ∧
      cu = { s.cu with replyRead := if value.toNat < 512 then Fin.ofNat 512 value.toNat else s.cu.replyRead }) →
    ∃ t, exec ins s = .next t ∧ t = { s with cu := t.cu, device := t.device } ∧
      (s.cu.state = .loading ∨ s.cu.state = .fault → t.cu = cu ∧ t.device = s.device) ∧
      (s.cu.state ≠ .loading → s.cu.state ≠ .fault →
        (cu.held = 0 → t.cu = { cu with state := .idle } ∧ t.device = s.device) ∧
        (cu.held ≠ 0 → kindOfCode (headerKind (cu.word 0)) = none →
          t.cu.state = .fault ∧ t.cu = { cu with state := .fault, fault := t.cu.fault } ∧
          t.cu.fault = some { cause := .unknownKind, index := cu.cmdRead,
                              kind := BitVec.ofNat 8 (headerKind (cu.word 0)),
                              length := BitVec.ofNat 8 (headerLength (cu.word 0)) } ∧
          Notified s t (s.device.events ||| 0x02)) ∧
        (∀ k, cu.held ≠ 0 → kindOfCode (headerKind (cu.word 0)) = some k →
          (headerLength (cu.word 0) < minLength k ∨ maxLength k < headerLength (cu.word 0) →
            t.cu = { cu with state := .fault, fault := t.cu.fault } ∧
            t.cu.fault = some { cause := .badLength, index := cu.cmdRead,
                                kind := BitVec.ofNat 8 (headerKind (cu.word 0)),
                                length := BitVec.ofNat 8 (headerLength (cu.word 0)) } ∧
            Notified s t (s.device.events ||| 0x02)) ∧
          (minLength k ≤ headerLength (cu.word 0) → headerLength (cu.word 0) ≤ maxLength k →
            t.device = s.device ∧
            (cu.held < headerLength (cu.word 0) → t.cu = { cu with state := .waitData }) ∧
            (headerLength (cu.word 0) ≤ cu.held → cu.replySpace < largestReply k →
              t.cu = { cu with state := .waitReply }) ∧
            (headerLength (cu.word 0) ≤ cu.held → largestReply k ≤ cu.replySpace →
              t.cu = { cu with state := .takeDue } ∧
              ∃ c, t.dueCommand = some c ∧ c.kind = k ∧ c.tag = headerTag (cu.word 0) ∧
                c.length = headerLength (cu.word 0) ∧
                ∀ n, 1 ≤ n → n < headerLength (cu.word 0) → arg c.args n = cu.word n))))

/-- A write of a ring word replaces that word alone and starts no evaluation (R148, R151); a write of a word that the
part writes, or of an address past 0x607, is ignored, and so is a write of the control word with bits 0 and 1 clear
(R171). A write of the control word with bit 1 set is a control reset, bit 0 set or not, and during LOADING it is ignored
(R156); a write of an index through the window is that of the index's own row (log 22). -/
def Obligations.WindowWritesReplaceRingWords : Prop :=
  ∀ (s : State) (address : BitVec 11) (value : Word), s.SummaryOk →
    (∀ n : Fin 1024, address.toNat = n.val →
      exec (.controlWindowWrite address value) s =
        .next { s with cu := { s.cu with cmdRing := tset s.cu.cmdRing n value } }) ∧
    (∀ n : Fin 512, address.toNat = 1024 + n.val →
      exec (.controlWindowWrite address value) s =
        .next { s with cu := { s.cu with replyRing := tset s.cu.replyRing n value } }) ∧
    (1536 ≤ address.toNat → address ≠ 0x600 → address ≠ 0x603 → address ≠ 0x605 →
      exec (.controlWindowWrite address value) s = .next s) ∧
    (address = 0x605 → bit value 0 = false → bit value 1 = false →
      exec (.controlWindowWrite address value) s = .next s) ∧
    (address = 0x605 → bit value 1 = true →
      exec (.controlWindowWrite address value) s = exec .controlReset s ∧
      (s.cu.state = .loading → exec (.controlWindowWrite address value) s = .next s) ∧
      (s.cu.state ≠ .loading →
        ∃ t, exec (.controlWindowWrite address value) s = .next t ∧ t.cu.state = .loading ∧ t.loader.stage = .header)) ∧
    (address = 0x600 → exec (.controlWindowWrite address value) s = exec (.commandWriteIndexWrite value) s) ∧
    (address = 0x603 → exec (.controlWindowWrite address value) s = exec (.replyReadIndexWrite value) s)

/-! ## Routes -/

/-- ROUTE_OPEN and PRESET_OPEN reply with the first failing check of an open, in its order, and then change nothing; a
PRESET_OPEN naming a number outside 0 to 15 or an empty preset is refused with RANGE (R58, R169). A command whose
words hold fewer map entries than its count fails the count's check (log 13). -/
def Obligations.OpensAreCheckedInOrder : Prop :=
  (∀ (s : State) (c : Command) (tick : Tick) (q : OpenRequest) (status : Status), s.dueCommand = some c →
    (c.kind = .routeOpen ∧ q = requestOfWords c.args) ∨
      (c.kind = .presetOpen ∧ bits (arg c.args 1) 0 8 < 16 ∧
        ∃ o, tget s.presets (Fin.ofNat 16 (bits (arg c.args 1) 0 8)) = some { request := q, startOrder := o }) →
    status = firstFailure
      [(decide (∃ i, (s.route i).state = .free), .noRoute),
       (decide (q.feed < 8), .range),
       (decide ((s.feed q.feedId).standard ≠ none), .feedUnconfigured),
       (decide (q.port < 8), .range),
       (decide (∀ i, (s.route i).state.live = true → (s.route i).port ≠ q.portId), .portTaken),
       (decide ((s.feed q.feedId).standard.map Standard.family = some (s.portStandard q.portId).family), .family),
       (decide (q.profile < 32), .range),
       (decide (s.profile q.profileId ≠ .empty), .profileEmpty),
       (decide (q.mapCount ≤ 8 ∧ q.mapCount ≤ q.entries.length), .range),
       (decide (((q.entries.take q.mapCount).map (fun e => (e.family, e.kind))).Nodup), .mapDuplicate),
       (decide (q.cadence ≤ 1 ∧ q.timecode ≤ 2 ∧ q.unmapped ≤ 2 ∧
          ∀ e ∈ q.entries.take q.mapCount, 1 ≤ e.family ∧ e.family ≤ 255 ∧ e.action ≤ 2), .range)] →
    status ≠ .ok →
    ∃ t, exec (ringInstr tick c.kind) s = .next t ∧ t = { s with cu := t.cu, device := t.device } ∧
      Taken s t s.device c { status := status, payload := [] }) ∧
  (∀ (s : State) (c : Command) (n : Nat), s.dueCommand = some c → c.kind = .presetOpen →
    n = bits (arg c.args 1) 0 8 → (16 ≤ n ∨ ∃ i : PresetId, i.val = n ∧ tget s.presets i = none) →
    ∃ t, exec .presetOpen s = .next t ∧ t = { s with cu := t.cu, device := t.device } ∧
      Taken s t s.device c { status := .range, payload := [] })

/-- ROUTE_OPEN and PRESET_OPEN that pass every check open the route in the lowest-indexed FREE record: every field of the
record is set afresh but its generation, the feed's route count advances by one, and the reply carries the handle, the
index and the output standard (R58, R59, R169, R16). -/
def Obligations.RouteOpenSetsTheRecord : Prop :=
  ∀ (s : State) (c : Command) (ins : Instr) (q : OpenRequest) (i : RouteId) (st : Standard),
    s.dueCommand = some c →
    (c.kind = .routeOpen ∧ ins = .routeOpen ∧ q = requestOfWords c.args) ∨
      (c.kind = .presetOpen ∧ ins = .presetOpen ∧ bits (arg c.args 1) 0 8 < 16 ∧
        ∃ o, tget s.presets (Fin.ofNat 16 (bits (arg c.args 1) 0 8)) = some { request := q, startOrder := o }) →
    (s.route i).state = .free → (∀ j, j < i → (s.route j).state ≠ .free) →
    q.feed < 8 → (s.feed q.feedId).standard = some st →
    q.port < 8 → (∀ j, (s.route j).state.live = true → (s.route j).port ≠ q.portId) →
    st.family = (s.portStandard q.portId).family →
    q.profile < 32 → s.profile q.profileId ≠ .empty →
    q.mapCount ≤ 8 → q.mapCount ≤ q.entries.length →
    ((q.entries.take q.mapCount).map (fun e => (e.family, e.kind))).Nodup →
    q.cadence ≤ 1 → q.timecode ≤ 2 → q.unmapped ≤ 2 →
    (∀ e ∈ q.entries.take q.mapCount, 1 ≤ e.family ∧ e.family ≤ 255 ∧ e.action ≤ 2) →
    ∃ t, exec ins s = .next t ∧
      t = { s with routes := t.routes, feeds := t.feeds, cu := t.cu, device := t.device } ∧
      (∀ j, j ≠ i → t.route j = s.route j) ∧
      t.route i =
        { generation := (s.route i).generation, state := .priming, feed := q.feedId, port := q.portId
          outStandard := (s.portStandard q.portId)
          setting :=
            { profile := q.profileId
              trim := min q.trim 99
              cadence := if q.cadence = 1 then .auto else .off
              timecode := if q.timecode = 0 then .off else if q.timecode = 1 then .source else .house
              holdLimit := q.holdLimit
              retireLimit := if q.retireLimit = 0 ∨ q.retireLimit = 65535 then none else some q.retireLimit
              mapList := (q.entries.take q.mapCount).map RawMapEntry.entry
              unmapped := if q.unmapped = 0 then .drop else if q.unmapped = 1 then .passOnce else .passEvery }
          window := [], nextAdmit := 0, phase := 0, error := 0, settled := false, pair := none, frozen := false
          snapshot := none, lastDominant := none, lapse := 0
          counters := { outputs := 0, late := 0, early := 0, clips := 0, cadenceBreaks := 0, continuityErrors := 0 }
          cadence := if q.cadence = 1 then some { history := [], lock := none } else none
          checker := none, events := 0, picture := none } ∧
      (∀ f, f ≠ q.feedId → t.feed f = s.feed f) ∧
      t.feed q.feedId = { s.feed q.feedId with routeCount := (s.feed q.feedId).routeCount + 1 } ∧
      Taken s t s.device c (Reply.ok
        [pack [⟨i.val + 16 * (s.route i).generation.val, 0, 8⟩, ⟨i.val, 8, 4⟩,
          ⟨(s.portStandard q.portId).code, 16, 4⟩]])

/-- ROUTE_ALTER of a valid handle replies with its first failing check and then changes nothing: a feed or port present
is FIXED, a present profile out of range RANGE, an empty one PROFILE_EMPTY, a present map list that does not fit RANGE
(log 13), one with equal keys MAP_DUPLICATE, and a mode, action or entry that is no value of the record RANGE (R72). An
accepted one applies every present field, with an open's adjustments, and leaves every absent one; a cadence part is
created or removed when the cadence mode changes and is left when it does not; nothing else of the record changes; the
reply carries the whole setting (R72, R73). -/
def Obligations.RouteAlterAppliesPresentFields : Prop :=
  ∀ (s : State) (c : Command) (i : RouteId) (p : AlterFlags) (q : OpenRequest) (status : Status),
    s.dueCommand = some c → c.kind = .routeAlter → s.handleValid (bits (arg c.args 1) 0 8) = true →
    i = handleIndex (bits (arg c.args 1) 0 8) → p = alterFlags (arg c.args 1) → q = requestOfWords (c.args.drop 1) →
    status = firstFailure
      [(!p.feed && !p.port, .fixed),
       (decide (p.profile = true → q.profile < 32), .range),
       (decide (p.profile = true → s.profile q.profileId ≠ .empty), .profileEmpty),
       (decide (p.mapList = true → q.mapCount ≤ 8 ∧ q.mapCount ≤ q.entries.length), .range),
       (decide (p.mapList = true → ((q.entries.take q.mapCount).map (fun e => (e.family, e.kind))).Nodup), .mapDuplicate),
       (decide ((p.cadence = true → q.cadence ≤ 1) ∧ (p.timecode = true → q.timecode ≤ 2) ∧
          (p.unmapped = true → q.unmapped ≤ 2) ∧
          (p.mapList = true → ∀ e ∈ q.entries.take q.mapCount, 1 ≤ e.family ∧ e.family ≤ 255 ∧ e.action ≤ 2)),
        .range)] →
    (status ≠ .ok →
      ∃ t, exec .routeAlter s = .next t ∧ t = { s with cu := t.cu, device := t.device } ∧
        Taken s t s.device c { status := status, payload := [] }) ∧
    (status = .ok →
      ∃ t, exec .routeAlter s = .next t ∧
        t = { s with routes := t.routes, cu := t.cu, device := t.device } ∧ (∀ j, j ≠ i → t.route j = s.route j) ∧
        t.route i = { s.route i with setting := (t.route i).setting, cadence := (t.route i).cadence } ∧
        (t.route i).setting.profile = (if p.profile then q.profileId else (s.route i).setting.profile) ∧
        (t.route i).setting.trim = (if p.trim then min q.trim 99 else (s.route i).setting.trim) ∧
        (t.route i).setting.cadence =
          (if p.cadence then (if q.cadence = 1 then .auto else .off) else (s.route i).setting.cadence) ∧
        (t.route i).setting.timecode =
          (if p.timecode then (if q.timecode = 0 then .off else if q.timecode = 1 then .source else .house)
           else (s.route i).setting.timecode) ∧
        (t.route i).setting.holdLimit = (if p.holdLimit then q.holdLimit else (s.route i).setting.holdLimit) ∧
        (t.route i).setting.retireLimit =
          (if p.retireLimit then (if q.retireLimit = 0 ∨ q.retireLimit = 65535 then none else some q.retireLimit)
           else (s.route i).setting.retireLimit) ∧
        (t.route i).setting.mapList =
          (if p.mapList then (q.entries.take q.mapCount).map RawMapEntry.entry else (s.route i).setting.mapList) ∧
        (t.route i).setting.unmapped =
          (if p.unmapped then (if q.unmapped = 0 then .drop else if q.unmapped = 1 then .passOnce else .passEvery)
           else (s.route i).setting.unmapped) ∧
        (t.route i).cadence =
          (if (t.route i).setting.cadence = (s.route i).setting.cadence then (s.route i).cadence
           else if (t.route i).setting.cadence = .auto then some { history := [], lock := none } else none) ∧
        Taken s t s.device c (Reply.ok (settingWords (t.route i) ++ mapWords (t.route i).setting.mapList)))

/-- ROUTE_CLOSE advances the generation, empties the window, removes the parts and the pending events, clears the frozen
flag and enters CLOSING with its pair kept, or FREE without one; each window entry lowers its slot's hold count and a slot
left with nothing is freed at once, its record kept by choice (log 32); the feed's route count falls by one (R70, R47,
R49). That a record which goes straight to FREE keeps its other fields is the model's choice (log 24). -/
def Obligations.RouteCloseGivesBackFeedAndPort : Prop :=
  ∀ (s : State) (c : Command) (i : RouteId), s.dueCommand = some c → c.kind = .routeClose →
    s.handleValid (bits (arg c.args 1) 0 8) = true → i = handleIndex (bits (arg c.args 1) 0 8) →
    ∃ t, exec .routeClose s = .next t ∧
      t = { s with routes := t.routes, feeds := t.feeds, slots := t.slots, cu := t.cu, device := t.device } ∧
      (∀ j, j ≠ i → t.route j = s.route j) ∧
      t.route i = { s.route i with
        state := if (s.route i).pair.isSome then .closing else .free
        generation := (s.route i).generation + 1
        window := [], cadence := none, checker := none, frozen := false, events := 0 } ∧
      (∀ f, f ≠ (s.route i).feed → t.feed f = s.feed f) ∧
      t.feed (s.route i).feed =
        { s.feed (s.route i).feed with routeCount := (s.feed (s.route i).feed).routeCount - 1 } ∧
      (∀ k, t.slot k =
        if k ∈ (s.route i).heldSlots then
          { s.slot k with hold := (s.slot k).hold - (s.route i).heldSlots.count k }.settle
        else s.slot k) ∧
      Taken s t s.device c (Reply.ok [pack [⟨if (s.route i).pair.isSome then 6 else 0, 0, 3⟩]])

/-- ROUTE_READ carries the record as it stands, 31 words and two more for each map entry, and with the clear flag set
clears the six counters; it changes nothing else (R75, R54). A pair of one slot is reported in its own field of the
pair's word (log 20). -/
def Obligations.RouteReadCarriesTheRecord : Prop :=
  ∀ (s : State) (c : Command) (i : RouteId), s.dueCommand = some c → c.kind = .routeRead →
    s.handleValid (bits (arg c.args 1) 0 8) = true → i = handleIndex (bits (arg c.args 1) 0 8) →
    ∃ t r, exec .routeRead s = .next t ∧
      t = { s with routes := t.routes, cu := t.cu, device := t.device } ∧ (∀ j, j ≠ i → t.route j = s.route j) ∧
      t.route i = { s.route i with
        counters := if bit (arg c.args 1) 8 then
            { outputs := 0, late := 0, early := 0, clips := 0, cadenceBreaks := 0, continuityErrors := 0 }
          else (s.route i).counters } ∧
      Taken s t s.device c r ∧ r.status = .ok ∧
      r.payload.length = 31 + 2 * (s.route i).setting.mapList.length ∧
      r.payload.take 4 =
        pack [⟨i.val + 16 * (s.route i).generation.val, 0, 8⟩, ⟨i.val, 8, 4⟩, ⟨(s.route i).state.code, 12, 3⟩,
          ⟨(s.route i).outStandard.code, 16, 4⟩, ⟨(s.route i).events.toNat, 24, 8⟩] :: settingWords (s.route i) ∧
      (∀ n e, n < 4 → (s.route i).window[n]? = some e →
        (r.payload.drop (4 + 3 * n)).take 3 = [pack [⟨e.slot.val, 0, 7⟩, ⟨1, 7, 1⟩], e.seq, e.admitNumber]) ∧
      (∀ n, n < 4 → (s.route i).window[n]? = none → (r.payload.drop (4 + 3 * n)).take 3 = [0, 0, 0]) ∧
      (r.payload.drop 16).take 2 = pairWords (s.route i) ∧
      (r.payload.drop 18).take 3 =
        [(s.route i).nextAdmit, BitVec.ofInt 32 (s.route i).phase, BitVec.ofInt 32 (s.route i).error] ∧
      (r.payload.drop 21).take 5 = snapshotWords (s.route i) ∧
      (r.payload.drop 26).take 4 =
        [pack [⟨(s.route i).lapse, 0, 16⟩, ⟨(s.route i).counters.continuityErrors, 16, 16⟩],
         (s.route i).counters.outputs,
         pack [⟨(s.route i).counters.late, 0, 16⟩, ⟨(s.route i).counters.early, 16, 16⟩],
         pack [⟨(s.route i).counters.clips, 0, 16⟩, ⟨(s.route i).counters.cadenceBreaks, 16, 16⟩]] ∧
      r.payload[30]? = some (partsWord (s.route i)) ∧
      r.payload.drop 31 = mapWords (s.route i).setting.mapList

/-- ROUTE_HOLD takes a route in any other live state to HELD: from RUNNING its current pair becomes the frozen pair
and a checker part is put into HUNT (R68, R141). ROUTE_RELEASE takes a HELD route to STARVED, flushed, when its feed
is LOST or MISMATCH, else to RUNNING with at least 2 window entries, else to PRIMING, and leaves any other live state
as it is (R69, R65). The replies carry the state after the command. That the frozen flag is set only with a pair, and
that a slot freed keeps its record, are the model's choices (logs 19, 32). -/
def Obligations.HoldAndReleaseMoveTheRoute : Prop :=
  (∀ (s : State) (c : Command) (i : RouteId), s.dueCommand = some c → c.kind = .routeHold →
    s.handleValid (bits (arg c.args 1) 0 8) = true → i = handleIndex (bits (arg c.args 1) 0 8) →
    ∃ t, exec .routeHold s = .next t ∧
      t = { s with routes := t.routes, cu := t.cu, device := t.device } ∧ (∀ j, j ≠ i → t.route j = s.route j) ∧
      t.route i =
        (if (s.route i).state = .running then
          { s.route i with
            state := .held, frozen := (s.route i).pair.isSome
            checker := (s.route i).checker.map (fun _ => { state := .hunt, run := 0, results := [], previous := none }) }
         else { s.route i with state := .held }) ∧
      Taken s t s.device c (Reply.ok [pack [⟨3, 0, 3⟩]])) ∧
  (∀ (s : State) (c : Command) (i : RouteId) (r : Route), s.dueCommand = some c → c.kind = .routeRelease →
    s.handleValid (bits (arg c.args 1) 0 8) = true → i = handleIndex (bits (arg c.args 1) 0 8) →
    r = (if (s.route i).state ≠ .held then s.route i
         else if (s.feed (s.route i).feed).state = .lost ∨ (s.feed (s.route i).feed).state = .mismatch then
          { s.route i with
            state := .starved, window := [], settled := false, lapse := 0, frozen := (s.route i).pair.isSome
            cadence := (s.route i).cadence.map (fun _ => { history := [], lock := none })
            checker := (s.route i).checker.map (fun _ => { state := .hunt, run := 0, results := [], previous := none })
            events := (s.route i).events ||| 0x10 }
         else if 2 ≤ (s.route i).window.length then { s.route i with state := .running }
         else { s.route i with state := .priming }) →
    ∃ t, exec .routeRelease s = .next t ∧
      t = { s with routes := t.routes, slots := t.slots, cu := t.cu, device := t.device } ∧
      (∀ j, j ≠ i → t.route j = s.route j) ∧ t.route i = r ∧
      (∀ k, t.slot k =
        if r.state = .starved ∧ (s.route i).state = .held ∧ k ∈ (s.route i).heldSlots then
          { s.slot k with hold := (s.slot k).hold - (s.route i).heldSlots.count k }.settle
        else s.slot k) ∧
      Taken s t s.device c (Reply.ok [pack [⟨r.state.code, 0, 3⟩]]))

/-- ROUTE_TRIM with a valid handle and a step of −99 to +99 moves the trim by the step, kept in 0 to 99, and replies OK
with the trim now held; nothing else of the route changes, and the next boundary's centre is taken from the new trim; a
handle that is not valid is refused with STALE, and then a step outside −99 to +99 with RANGE (R74). -/
def Obligations.RouteTrimMovesTheTrim : Prop :=
  ∀ (s : State) (c : Command) (h : Nat) (i : RouteId) (step : Int), s.dueCommand = some c → c.kind = .routeTrim →
    h = bits (arg c.args 1) 0 8 → i = handleIndex h → step = signed8 (bits (arg c.args 1) 8 8) →
    (s.handleValid h = false →
      ∃ t, exec .routeTrim s = .next t ∧ t = { s with cu := t.cu, device := t.device } ∧
        Taken s t s.device c { status := .stale, payload := [] }) ∧
    (s.handleValid h = true → step < -99 ∨ 99 < step →
      ∃ t, exec .routeTrim s = .next t ∧ t = { s with cu := t.cu, device := t.device } ∧
        Taken s t s.device c { status := .range, payload := [] }) ∧
    (∀ trim : Nat, s.handleValid h = true → -99 ≤ step → step ≤ 99 →
      (trim : Int) = max 0 (min 99 ((s.route i).setting.trim + step)) →
      ∃ t, exec .routeTrim s = .next t ∧
        t = { s with
          routes := tset s.routes i
            { s.route i with setting := { (s.route i).setting with trim := trim } }
          cu := t.cu, device := t.device } ∧
        (∀ period, ((t.route i).stepPhase period).error = 65536 + 1310 * trim - (t.route i).nextPhase period) ∧
        Taken s t s.device c (Reply.ok [pack [⟨trim, 0, 8⟩]]))

/-- CHECK_SET on creates a missing checker part in HUNT, run 0, with an empty result window and no previous dominant, and
leaves a present one; off removes it; the reply carries the checker summary; a handle that is not valid is refused with
STALE and then a value other than on or off with RANGE; nothing else changes (R142). -/
def Obligations.CheckSetSwitchesTheChecker : Prop :=
  ∀ (s : State) (c : Command) (h value : Nat) (i : RouteId), s.dueCommand = some c → c.kind = .checkSet →
    h = bits (arg c.args 1) 0 8 → i = handleIndex h → value = bits (arg c.args 1) 8 8 →
    (s.handleValid h = false →
      ∃ t, exec .checkSet s = .next t ∧ t = { s with cu := t.cu, device := t.device } ∧
        Taken s t s.device c { status := .stale, payload := [] }) ∧
    (s.handleValid h = true → 1 < value →
      ∃ t, exec .checkSet s = .next t ∧ t = { s with cu := t.cu, device := t.device } ∧
        Taken s t s.device c { status := .range, payload := [] }) ∧
    (s.handleValid h = true → value = 0 →
      ∃ t, exec .checkSet s = .next t ∧
        t = { s with routes := tset s.routes i { s.route i with checker := none }, cu := t.cu, device := t.device } ∧
        Taken s t s.device c (Reply.ok [0])) ∧
    (∀ part : CheckerPart, s.handleValid h = true → value = 1 →
      (s.route i).checker = some part ∨
        ((s.route i).checker = none ∧ part = { state := .hunt, run := 0, results := [], previous := none }) →
      ∃ t, exec .checkSet s = .next t ∧
        t = { s with
          routes := tset s.routes i { s.route i with checker := some part }, cu := t.cu, device := t.device } ∧
        Taken s t s.device c (Reply.ok
          [pack [⟨1, 0, 1⟩, ⟨part.state.code, 1, 1⟩, ⟨part.run, 2, 4⟩, ⟨part.results.count false, 8, 7⟩]]))

/-! ## Feeds -/

/-- FEED_SET replies with the first failing check and then changes nothing. Accepted on an unchanged standard it sets the
profile, the track slot, freeze and the threshold, and E to nominal when the profile is NOMINAL. Accepted with another
standard it restarts the feed: a picture in flight is abandoned, counted as damaged and its writing slot freed, the
reference list is emptied, the runs become 0, and the state is EMPTY with E at nominal or UNCONFIGURED with E 0 (R35).
That the slot freed keeps its record is the model's choice (log 32). -/
def Obligations.FeedSetConfiguresTheFeed : Prop :=
  ∀ (s : State) (c : Command) (q : FeedRequest) (f : FeedId), s.dueCommand = some c → c.kind = .feedSet →
    q = feedRequestOfWords c.args → f = q.feedId →
    (∀ status, status = firstFailure
        [(decide (q.feed < 8), .range), (decide (q.standard ≤ 10), .range), (decide (q.profile ≤ 1), .range),
         (decide (q.trackSlot ≤ 4), .range),
         (decide (standardOfCode q.standard = (s.feed f).standard ∨ (s.feed f).routeCount = 0), .feedInUse)] →
      status ≠ .ok →
      ∃ t, exec .feedSet s = .next t ∧ t = { s with cu := t.cu, device := t.device } ∧
        Taken s t s.device c { status := status, payload := [] }) ∧
    (q.feed < 8 → q.standard ≤ 10 → q.profile ≤ 1 → q.trackSlot ≤ 4 →
      standardOfCode q.standard = (s.feed f).standard →
      ∃ t, exec .feedSet s = .next t ∧
        t = { s with
          feeds := tset s.feeds f { s.feed f with
            profile := if q.profile = 1 then .nominal else .track
            trackSlot := Fin.ofNat 5 q.trackSlot, freeze := q.freeze, threshold := q.threshold
            period := if q.profile = 1 then ((s.feed f).standard.map Standard.nominalPeriod).getD 0
              else (s.feed f).period }
          cu := t.cu, device := t.device } ∧
        Taken s t s.device c
          (Reply.ok [pack [⟨(t.feed f).state.code, 0, 8⟩], BitVec.ofNat 32 (t.feed f).period])) ∧
    (q.feed < 8 → q.standard ≤ 10 → q.profile ≤ 1 → q.trackSlot ≤ 4 →
      standardOfCode q.standard ≠ (s.feed f).standard → (s.feed f).routeCount = 0 →
      ∃ t, exec .feedSet s = .next t ∧
        t = { s with
          feeds := t.feeds, feedPorts := tset s.feedPorts f { s.feedPort f with refs := [] }
          slots := t.slots, cu := t.cu, device := t.device } ∧
        (∀ g, g ≠ f → t.feed g = s.feed g) ∧
        t.feed f = { s.feed f with
          standard := standardOfCode q.standard
          profile := if q.profile = 1 then .nominal else .track
          trackSlot := Fin.ofNat 5 q.trackSlot, freeze := q.freeze, threshold := q.threshold
          state := if q.standard = 0 then .unconfigured else .empty
          period := ((standardOfCode q.standard).map Standard.nominalPeriod).getD 0
          lastStart := none, measurement := none, inFlight := false
          goodRun := 0, rejectRun := 0, badRun := 0
          writing := if (s.feed f).inFlight then none else (s.feed f).writing
          damaged := if (s.feed f).inFlight then min 65535 ((s.feed f).damaged + 1) else (s.feed f).damaged
          events := (s.feed f).events ||| (if (s.feed f).inFlight then 0x4 else 0) |||
            (if (s.feed f).state = (if q.standard = 0 then .unconfigured else .empty) then 0 else 0x1) } ∧
        (∀ k, t.slot k =
          if (s.feed f).inFlight = true ∧ (s.feed f).writing = some k then
            { s.slot k with state := .free, hold := 0, pin := 0 }
          else s.slot k) ∧
        Taken s t s.device c
          (Reply.ok [pack [⟨(t.feed f).state.code, 0, 8⟩], BitVec.ofNat 32 (t.feed f).period]))

/-- FEED_READ of a feed outside 0 to 7 is refused with RANGE; otherwise the reply carries the feed's record with its
constant K and its rate floor((6,912,000,000,000 + floor(E/2)) / E), 0 while UNCONFIGURED, and with the clear flag set the
five counters become 0 after that; the pending events stay (R36, R34). -/
def Obligations.FeedReadCarriesTheRecord : Prop :=
  ∀ (s : State) (c : Command) (n : Nat), s.dueCommand = some c → c.kind = .feedRead → n = bits (arg c.args 1) 0 8 →
    (8 ≤ n →
      ∃ t, exec .feedRead s = .next t ∧ t = { s with cu := t.cu, device := t.device } ∧
        Taken s t s.device c { status := .range, payload := [] }) ∧
    (∀ f : FeedId, f.val = n →
      ∃ t, exec .feedRead s = .next t ∧
        t = { s with feeds := t.feeds, cu := t.cu, device := t.device } ∧ (∀ g, g ≠ f → t.feed g = s.feed g) ∧
        t.feed f = (if bit (arg c.args 1) 8 then
          { s.feed f with pictures := 0, runts := 0, rejects := 0, damaged := 0, overruns := 0 } else s.feed f) ∧
        Taken s t s.device c (Reply.ok
          [pack [⟨((s.feed f).standard.map Standard.code).getD 0, 0, 8⟩, ⟨(s.feed f).profile.code, 8, 2⟩,
              ⟨flag (s.feed f).freeze, 10, 1⟩, ⟨(s.feed f).trackSlot.val, 12, 4⟩],
           pack [⟨tget s.trackK (s.feed f).trackSlot, 0, 16⟩, ⟨(s.feed f).threshold.toNat, 16, 16⟩],
           pack [⟨(s.feed f).state.code, 0, 3⟩, ⟨flag (s.feed f).lastStart.isSome, 4, 1⟩,
              ⟨flag (s.feed f).measurement.isSome, 5, 1⟩, ⟨(s.feed f).events.toNat, 8, 4⟩],
           BitVec.ofNat 32 (s.feed f).period,
           BitVec.ofNat 32 (if (s.feed f).standard = none then 0
             else (6912000000000 + (s.feed f).period / 2) / (s.feed f).period),
           (s.feed f).lastStart.getD 0, (s.feed f).measurement.getD 0,
           pack [⟨(s.feed f).goodRun, 0, 3⟩, ⟨(s.feed f).rejectRun, 4, 2⟩, ⟨(s.feed f).badRun, 8, 4⟩,
              ⟨(s.feed f).routeCount, 16, 5⟩],
           (s.feed f).nextSeq, (s.feed f).pictures,
           pack [⟨(s.feed f).runts, 0, 16⟩, ⟨(s.feed f).rejects, 16, 16⟩],
           pack [⟨(s.feed f).damaged, 0, 16⟩, ⟨(s.feed f).overruns, 16, 16⟩]]))

/-- TRACK_SET: a slot outside 0 to 4 is refused with RANGE and slot 0 or 1 with FIXED; slots 2 to 4 take the value, with
0 taken as 1, and the reply carries the slot and the value now held (R33). -/
def Obligations.TrackSetSetsTheConstant : Prop :=
  ∀ (s : State) (c : Command) (n value : Nat), s.dueCommand = some c → c.kind = .trackSet →
    n = bits (arg c.args 1) 0 8 → value = bits (arg c.args 1) 16 16 →
    (5 ≤ n ∨ n < 2 →
      ∃ t, exec .trackSet s = .next t ∧ t = { s with cu := t.cu, device := t.device } ∧
        Taken s t s.device c { status := if n < 2 then .fixed else .range, payload := [] }) ∧
    (∀ k : Fin 5, k.val = n → 2 ≤ n →
      ∃ t, exec .trackSet s = .next t ∧
        t = { s with trackK := tset s.trackK k (if value = 0 then 1 else value), cu := t.cu, device := t.device } ∧
        Taken s t s.device c (Reply.ok [pack [⟨n, 0, 8⟩, ⟨if value = 0 then 1 else value, 16, 16⟩]]))

/-! ## The Profile Table -/

/-- PROFILE_WRITE replies with the first failing check and then changes nothing: a profile outside 0 to 31 RANGE, a
built-in one FIXED, a kind that is neither CURVE nor SNAP RANGE, a curve whose points the words do not hold RANGE
(R153) and a curve that is not valid CURVE_INVALID; an accepted one replaces the profile's contents, and for SNAP
keeps no points (R117, R110). The place of the check on the words is the model's choice (log 13). -/
def Obligations.ProfileWriteReplacesTheProfile : Prop :=
  ∀ (s : State) (c : Command) (n kind : Nat) (points : List Nat) (status : Status),
    s.dueCommand = some c → c.kind = .profileWrite →
    n = bits (arg c.args 1) 0 8 → kind = bits (arg c.args 1) 8 8 → points = argPoints c.args →
    status = firstFailure
      [(decide (n < 32), .range), (decide (4 ≤ n), .fixed), (decide (kind = 0 ∨ kind = 1), .range),
       (decide (kind = 0 → c.args.length = 6), .range),
       (decide (kind = 0 → points.length = 17 ∧ points[0]? = some 0 ∧ points[16]? = some 64 ∧
          points.Pairwise (· ≤ ·)), .curveInvalid)] →
    ∃ t, exec .profileWrite s = .next t ∧
      t = { s with
        profiles := if status = .ok then
            tset s.profiles (Fin.ofNat 32 n) (if kind = 1 then .snap else .curve points)
          else s.profiles
        cu := t.cu, device := t.device } ∧
      Taken s t s.device c { status := status, payload := [] }

/-- PROFILE_READ names a profile: outside 0 to 31 it is refused with RANGE; otherwise the reply carries its kind, its 17
points when the kind is CURVE, whether it is built in and the number of live routes that name it; it changes nothing
(R118). -/
def Obligations.ProfileReadCarriesTheProfile : Prop :=
  ∀ (s : State) (c : Command) (n : Nat), s.dueCommand = some c → c.kind = .profileRead →
    n = bits (arg c.args 1) 0 8 →
    (32 ≤ n →
      ∃ t, exec .profileRead s = .next t ∧ t = { s with cu := t.cu, device := t.device } ∧
        Taken s t s.device c { status := .range, payload := [] }) ∧
    (∀ (i : ProfileId) (points : List Nat), i.val = n →
      s.profile i = .curve points ∨
        ((∀ l, s.profile i ≠ .curve l) ∧ points = List.replicate 17 0) →
      ∃ t, exec .profileRead s = .next t ∧ t = { s with cu := t.cu, device := t.device } ∧
        Taken s t s.device c (Reply.ok
          [pack [⟨(s.profile i).code, 0, 2⟩, ⟨if n < 4 then 1 else 0, 8, 1⟩,
              ⟨(List.finRange 16).countP
                (fun r => (s.route r).state.live && (s.route r).setting.profile == i), 16, 5⟩],
           pack [⟨points.getD 0 0, 0, 8⟩, ⟨points.getD 1 0, 8, 8⟩, ⟨points.getD 2 0, 16, 8⟩, ⟨points.getD 3 0, 24, 8⟩],
           pack [⟨points.getD 4 0, 0, 8⟩, ⟨points.getD 5 0, 8, 8⟩, ⟨points.getD 6 0, 16, 8⟩, ⟨points.getD 7 0, 24, 8⟩],
           pack [⟨points.getD 8 0, 0, 8⟩, ⟨points.getD 9 0, 8, 8⟩, ⟨points.getD 10 0, 16, 8⟩,
             ⟨points.getD 11 0, 24, 8⟩],
           pack [⟨points.getD 12 0, 0, 8⟩, ⟨points.getD 13 0, 8, 8⟩, ⟨points.getD 14 0, 16, 8⟩,
             ⟨points.getD 15 0, 24, 8⟩],
           pack [⟨points.getD 16 0, 0, 8⟩]]))

/-! ## Timelines, ports and the reference -/

/-- TIMELINE_SET replies with the first failing check and then changes nothing; accepted, it gives the timeline the
standard and starts it at the tick the command is taken: the next boundary one period later, counter 0, first parity, no
current timecode and the given timecode or 00:00:00:00 next; its ports carry BLACK, the pictures in progress on them end,
and the monitor on this timeline goes black (R12, R10, R106, R143). The ports and the monitor keep the standard of the
interval that is cut for their black lines until the first boundary after it (the model's choice, log 29). -/
def Obligations.TimelineSetRestartsTheTimeline : Prop :=
  ∀ (s : State) (c : Command) (tick : Tick) (w time : Word) (status : Status), s.dueCommand = some c →
    c.kind = .timelineSet → w = arg c.args 1 → time = arg c.args 2 →
    (∀ (t' : TimelineId) (st : Standard) (timed : Bool) (start : Timecode), timelineOfCode (bits w 0 8) = some t' →
      standardOfCode (bits w 8 8) = some st → timed = decide (c.args.length = 2) →
      start = (if timed then
          ⟨bits time 24 6, bits time 16 8, bits time 8 8, bits time 0 8, st.drop, false⟩
        else ⟨0, 0, 0, 0, st.drop, false⟩) →
      status = firstFailure
        [(!timed || st.validTimecode start, .range),
         (decide (∀ i, (s.route i).state.live = true → (s.port (s.route i).port).timeline ≠ t'), .timelineInUse)] →
      (status ≠ .ok →
        ∃ t, exec (.timelineSet tick) s = .next t ∧ t = { s with cu := t.cu, device := t.device } ∧
          Taken s t s.device c { status := status, payload := [] }) ∧
      (status = .ok →
        ∃ t, exec (.timelineSet tick) s = .next t ∧
          t = { s with
            timelineA := t.timelineA, timelineB := t.timelineB, ports := t.ports, routes := t.routes
            monitor := t.monitor, cu := t.cu, device := t.device } ∧
          (∀ u, u ≠ t' → t.timeline u = s.timeline u) ∧
          t.timeline t' =
            { state := .running, standard := st, nextBoundary := some (tick + BitVec.ofNat 32 st.nominal), counter := 0
              nextParity := if st.interlaced then .top else .frame
              nextTimecode := start
              currentTimecode := none } ∧
          (∀ p, t.port p = if (s.port p).timeline = t' then
              { s.port p with content := .black, timecode := none, packets := [] } else s.port p) ∧
          (∀ i, t.route i = if (s.port (s.route i).port).timeline = t' then
              { s.route i with picture := none } else s.route i) ∧
          t.monitor = (if s.monitorTimeline = t' then
              { s.monitor with content := .black, packets := [], timecode := none, picture := none }
            else s.monitor) ∧
          Taken s t s.device c (Reply.ok [tick + BitVec.ofNat 32 st.nominal]))) ∧
    (timelineOfCode (bits w 0 8) = none ∨ standardOfCode (bits w 8 8) = none →
      ∃ t, exec (.timelineSet tick) s = .next t ∧ t = { s with cu := t.cu, device := t.device } ∧
        Taken s t s.device c { status := .range, payload := [] })

/-- TIMELINE_READ of a timeline other than A or B is refused with RANGE; otherwise the reply carries the timeline, the
Reference Unit, the number of live routes on the timeline's ports and the ports assigned to it, and with the clear flag
set BAD_PULSES becomes 0 after that; it changes nothing else (R13). -/
def Obligations.TimelineReadCarriesTheTimeline : Prop :=
  ∀ (s : State) (c : Command), s.dueCommand = some c → c.kind = .timelineRead →
    (1 < bits (arg c.args 1) 0 8 →
      ∃ t, exec .timelineRead s = .next t ∧ t = { s with cu := t.cu, device := t.device } ∧
        Taken s t s.device c { status := .range, payload := [] }) ∧
    (∀ u, (u = .a ∧ bits (arg c.args 1) 0 8 = 0) ∨ (u = .b ∧ bits (arg c.args 1) 0 8 = 1) →
      ∃ t, exec .timelineRead s = .next t ∧
        t = { s with
          reference := if bit (arg c.args 1) 8 then { s.reference with badPulses := 0 } else s.reference
          cu := t.cu, device := t.device } ∧
        Taken s t s.device c (Reply.ok
          [pack [⟨(s.timeline u).state.code, 0, 1⟩, ⟨(s.timeline u).standard.code, 4, 4⟩,
              ⟨(s.timeline u).nextParity.code, 8, 2⟩, ⟨flag (s.timeline u).currentTimecode.isSome, 12, 1⟩],
           (s.timeline u).nextBoundary.getD 0, (s.timeline u).counter, timecodeWord (s.timeline u).nextTimecode,
           ((s.timeline u).currentTimecode.map timecodeWord).getD 0,
           pack [⟨s.reference.family.code, 0, 1⟩, ⟨s.reference.mode.code, 2, 2⟩, ⟨s.reference.source.code, 4, 2⟩,
              ⟨s.reference.goodRun, 8, 5⟩, ⟨s.reference.badPulses, 16, 16⟩],
           pack (⟨(List.finRange 16).countP
                (fun i => (s.route i).state.live && (s.port (s.route i).port).timeline == u), 0, 5⟩ ::
              (List.finRange 8).map (fun p => ⟨flag ((s.port p).timeline == u), 8 + p.val, 1⟩))]))

/-- PORT_SET moves a port to the named timeline and leaves its mute flag; a port outside 0 to 7 and a timeline other
than A or B are refused with RANGE, and a port with a live route with PORT_IN_USE (R15). PORT_MUTE sets the mute flag
alone and replies with the port's timeline, flag, content and live route's handle; a port outside 0 to 7 and a value
other than on or off are refused with RANGE (R123). A moved port's lines keep their standard until the new timeline's
next boundary (R15, R113). That the port's record keeps its content until then is the model's choice (log 27). -/
def Obligations.PortSetAndPortMuteSetThePort : Prop :=
  (∀ (s : State) (c : Command) (n v : Nat) (status : Status), s.dueCommand = some c → c.kind = .portSet →
    n = bits (arg c.args 1) 0 8 → v = bits (arg c.args 1) 8 8 →
    status = firstFailure
      [(decide (n < 8), .range), (decide (v < 2), .range),
       (decide (∀ i, (s.route i).state.live = true → (s.route i).port.val ≠ n), .portInUse)] →
    ∃ t, exec .portSet s = .next t ∧
      t = { s with
        ports := if status = .ok then
            tset s.ports (Fin.ofNat 8 n) { s.port (Fin.ofNat 8 n) with timeline := if v = 0 then .a else .b }
          else s.ports
        cu := t.cu, device := t.device } ∧
      Taken s t s.device c { status := status, payload := [] }) ∧
  (∀ (s : State) (c : Command) (n v : Nat), s.dueCommand = some c → c.kind = .portMute →
    n = bits (arg c.args 1) 0 8 → v = bits (arg c.args 1) 8 8 →
    (8 ≤ n ∨ 2 ≤ v →
      ∃ t, exec .portMute s = .next t ∧ t = { s with cu := t.cu, device := t.device } ∧
        Taken s t s.device c { status := .range, payload := [] }) ∧
    (∀ (p : PortId) (handle : Option Nat), p.val = n → v < 2 →
      ((∃ i, (s.route i).state.live = true ∧ (s.route i).port = p ∧
          (∀ j, j < i → ¬((s.route j).state.live = true ∧ (s.route j).port = p)) ∧
          handle = some (i.val + 16 * (s.route i).generation.val)) ∨
        ((∀ i, (s.route i).state.live = true → (s.route i).port ≠ p) ∧ handle = none)) →
      ∃ t, exec .portMute s = .next t ∧
        t = { s with ports := tset s.ports p { s.port p with mute := decide (v = 1) }, cu := t.cu, device := t.device } ∧
        Taken s t s.device c (Reply.ok
          [pack [⟨timelineCode (s.port p).timeline, 0, 1⟩, ⟨v, 1, 1⟩, ⟨(s.port p).content.code, 4, 2⟩,
            ⟨flag handle.isSome, 8, 1⟩, ⟨handle.getD 0, 16, 8⟩]])))

/-- REFERENCE_SET by the mode named and the current mode: AUTO is OK in AUTO and MANUAL_LATCHED in a manual mode, a manual
mode is always OK, any other value is RANGE; a mode entered that is MANUAL_INTERNAL makes the tick source INTERNAL, with
REF_CHANGE when it was not, and MANUAL_EXTERNAL keeps it; the reply carries the Reference Unit after the command, accepted
or refused (R9, R7). -/
def Obligations.ReferenceSetLatchesTheMode : Prop :=
  ∀ (s : State) (c : Command) (n : Nat) (mode : RefMode) (source : TickSource) (status : Status),
    s.dueCommand = some c → c.kind = .referenceSet → n = bits (arg c.args 1) 0 8 →
    (n = 0 ∧ mode = s.reference.mode ∧ status = (if s.reference.mode = .auto then .ok else .manualLatched)) ∨
      (n = 1 ∧ mode = .manualExternal ∧ status = .ok) ∨ (n = 2 ∧ mode = .manualInternal ∧ status = .ok) ∨
      (2 < n ∧ mode = s.reference.mode ∧ status = .range) →
    source = (if mode = .manualInternal ∧ s.reference.mode ≠ .manualInternal then .internal
      else s.reference.source) →
    ∃ t d, exec .referenceSet s = .next t ∧
      t = { s with
        reference := { s.reference with mode := mode, source := source }, cu := t.cu, device := t.device } ∧
      d = { s.device with
        events := if source = s.reference.source then s.device.events else s.device.events ||| 0x01 } ∧
      Taken s t d c
        { status := status
          payload := [pack [⟨s.reference.family.code, 0, 1⟩, ⟨mode.code, 2, 2⟩, ⟨source.code, 4, 2⟩,
            ⟨s.reference.goodRun, 8, 5⟩, ⟨s.reference.badPulses, 16, 16⟩]] }

/-- A reference pulse becomes the last pulse. A first pulse is not judged; a later one is good when its interval lies
within floor(P/100) of P, and then raises the good run, to 16 at most; a bad one clears the good run and is counted. A
good pulse that leaves the run at 16 outside LOCKED takes INTERNAL to LOCKED in AUTO and MANUAL_EXTERNAL and HOLDOVER to
LOCKED in MANUAL_EXTERNAL. An expiry of the absence timer clears the last pulse and the good run and takes LOCKED to
INTERNAL in AUTO and to HOLDOVER in MANUAL_EXTERNAL. Every change of the source raises REF_CHANGE (R5, R6, R7). -/
def Obligations.ReferencePulsesAreJudged : Prop :=
  (∀ (s : State) (tick : Tick) (p : Nat), p = s.reference.family.period →
    ∃ t, exec (.referencePulse tick) s = .next t ∧ t = { s with reference := t.reference, device := t.device } ∧
      t.reference.family = s.reference.family ∧ t.reference.mode = s.reference.mode ∧
      t.reference.lastPulse = some tick ∧
      Notified s t
        (if t.reference.source = s.reference.source then s.device.events else s.device.events ||| 0x01) ∧
      (s.reference.lastPulse = none → t.reference.goodRun = s.reference.goodRun ∧
        t.reference.badPulses = s.reference.badPulses ∧ t.reference.source = s.reference.source) ∧
      (∀ last, s.reference.lastPulse = some last →
        (p - p / 100 ≤ (tick - last).toNat → (tick - last).toNat ≤ p + p / 100 →
          t.reference.goodRun = min 16 (s.reference.goodRun + 1) ∧
          t.reference.badPulses = s.reference.badPulses ∧
          t.reference.source =
            (if min 16 (s.reference.goodRun + 1) = 16 ∧
                ((s.reference.source = .internal ∧ s.reference.mode ≠ .manualInternal) ∨
                 (s.reference.source = .holdover ∧ s.reference.mode = .manualExternal)) then .locked
             else s.reference.source)) ∧
        ((tick - last).toNat < p - p / 100 ∨ p + p / 100 < (tick - last).toNat →
          t.reference.goodRun = 0 ∧ t.reference.badPulses = min 65535 (s.reference.badPulses + 1) ∧
          t.reference.source = s.reference.source))) ∧
  (∀ s : State, s.reference.lastPulse.isSome →
    ∃ t, exec .referenceAbsence s = .next t ∧
      t = { s with
        reference := { s.reference with
          lastPulse := none, goodRun := 0
          source := if s.reference.source = .locked ∧ s.reference.mode = .auto then .internal
            else if s.reference.source = .locked ∧ s.reference.mode = .manualExternal then .holdover
            else s.reference.source }
        device := t.device } ∧
      Notified s t
        (if t.reference.source = s.reference.source then s.device.events else s.device.events ||| 0x01)) ∧
  (RefFamily.fifty.period = 1080000 ∧ RefFamily.fiftyNine94.period = 900900)

/-! ## The monitor, the events and the device -/

/-- MONITOR_SET: a view kind other than OFF, PORT and FEED, a port or a feed outside 0 to 7 and a timeline other than A or
B are refused with RANGE; the view already set changes nothing; another view ends the monitor's picture, carries black,
releases the pair and lets the latest go unless both views are feed views of one feed; slots left with nothing are freed
at once (R147, R47, R48, R49). Its black lines keep the standard of the interval in progress until the new view's first
boundary, and a slot freed keeps its record (the model's choices, logs 29, 32). -/
def Obligations.MonitorSetChangesTheView : Prop :=
  ∀ (s : State) (c : Command) (kind n tl : Nat), s.dueCommand = some c → c.kind = .monitorSet →
    kind = bits (arg c.args 1) 0 8 → n = bits (arg c.args 1) 8 8 → tl = bits (arg c.args 1) 16 8 →
    (2 < kind ∨ (kind = 1 ∧ 8 ≤ n) ∨ (kind = 2 ∧ (8 ≤ n ∨ 2 ≤ tl)) →
      ∃ t, exec .monitorSet s = .next t ∧ t = { s with cu := t.cu, device := t.device } ∧
        Taken s t s.device c { status := .range, payload := [] }) ∧
    (∀ (view : MonitorView) (keep : Bool),
      (kind = 0 ∧ view = .off) ∨ (kind = 1 ∧ ∃ p : PortId, p.val = n ∧ view = .port p) ∨
        (kind = 2 ∧ ∃ (f : FeedId) (u : TimelineId), f.val = n ∧ timelineOfCode tl = some u ∧ view = .feed f u) →
      (keep = true ↔ ∃ f u v, s.monitor.view = .feed f u ∧ view = .feed f v) →
      (view = s.monitor.view →
        ∃ t, exec .monitorSet s = .next t ∧ t = { s with cu := t.cu, device := t.device } ∧
          Taken s t s.device c (Reply.ok (monitorWords s.monitor s.slots))) ∧
      (view ≠ s.monitor.view →
        ∃ t, exec .monitorSet s = .next t ∧
          t = { s with
            monitor := { s.monitor with
              view := view, latest := if keep then s.monitor.latest else none, pair := none
              content := .black, packets := [], timecode := none, picture := none }
            slots := t.slots, cu := t.cu, device := t.device } ∧
          (∀ k, t.slot k =
            if s.monitor.pair = some k ∨ (s.monitor.latest = some k ∧ keep = false) then
              { s.slot k with
                pin := (s.slot k).pin - (if s.monitor.pair = some k then 1 else 0)
                hold := (s.slot k).hold -
                  (if s.monitor.latest = some k ∧ keep = false then 1 else 0) }.settle
            else s.slot k) ∧
          Taken s t s.device c (Reply.ok (monitorWords t.monitor t.slots))))

/-- EVENTS_TAKE replies with the scope's pending set and empties it, and for the device the retired set with it; a feed
outside 0 to 7 and an unknown scope are refused with RANGE (R159; a route's handle that is not valid is refused with
STALE, R56). NOTIFY_SET takes the three masks and the enable and replies with them and the summary word as it then
stands; an enable other than on or off is refused with RANGE (R160, R161). -/
def Obligations.EventsTakeAndNotifySet : Prop :=
  (∀ (s : State) (c : Command) (scope n : Nat), s.dueCommand = some c → c.kind = .eventsTake →
    scope = bits (arg c.args 1) 0 8 → n = bits (arg c.args 1) 8 8 →
    (2 < scope ∨ (scope = 1 ∧ 8 ≤ n) →
      ∃ t, exec .eventsTake s = .next t ∧ t = { s with cu := t.cu, device := t.device } ∧
        Taken s t s.device c { status := .range, payload := [] }) ∧
    (∀ i : RouteId, scope = 0 → s.handleValid n = true → i = handleIndex n →
      ∃ t, exec .eventsTake s = .next t ∧
        t = { s with routes := tset s.routes i { s.route i with events := 0 }, cu := t.cu, device := t.device } ∧
        Taken s t s.device c (Reply.ok [(s.route i).events.setWidth 32])) ∧
    (∀ f : FeedId, scope = 1 → f.val = n →
      ∃ t, exec .eventsTake s = .next t ∧
        t = { s with feeds := tset s.feeds f { s.feed f with events := 0 }, cu := t.cu, device := t.device } ∧
        Taken s t s.device c (Reply.ok [(s.feed f).events.setWidth 32])) ∧
    (scope = 2 →
      ∃ t, exec .eventsTake s = .next t ∧ t = { s with cu := t.cu, device := t.device } ∧
        Taken s t { s.device with events := 0, retired := 0 } c
          (Reply.ok [pack [⟨s.device.events.toNat, 0, 5⟩, ⟨s.device.retired.toNat, 16, 16⟩]]))) ∧
  (∀ (s : State) (c : Command) (v : Nat) (d : Device), s.dueCommand = some c → c.kind = .notifySet →
    v = bits (arg c.args 3) 8 8 →
    d = { s.device with
      routeMask := (arg c.args 1).setWidth 8, feedMask := (arg c.args 2).setWidth 4
      deviceMask := (arg c.args 3).setWidth 5, enable := decide (v = 1) } →
    (2 ≤ v →
      ∃ t, exec .notifySet s = .next t ∧ t = { s with cu := t.cu, device := t.device } ∧
        Taken s t s.device c { status := .range, payload := [] }) ∧
    (v < 2 →
      ∃ t, exec .notifySet s = .next t ∧ t = { s with cu := t.cu, device := t.device } ∧
        Taken s t d c (Reply.ok
          [pack [⟨d.routeMask.toNat, 0, 8⟩, ⟨d.feedMask.toNat, 8, 4⟩, ⟨d.deviceMask.toNat, 16, 5⟩,
            ⟨if d.enable then 1 else 0, 24, 1⟩], summaryWord s.routes s.feeds d])))

/-- DEVICE_READ replies with 63 words after its header, as the part stands, and changes nothing: the device's sets, the
masks, the summary word, the Reference Unit, the timelines, each route's state and handle, each feed's state and slot
occupancy (R52), each port (R135), the monitor and the loader result; the last 23 words are 0 (R162). -/
def Obligations.DeviceReadCarriesThePart : Prop :=
  ∀ (s : State) (c : Command), s.dueCommand = some c → c.kind = .deviceRead →
    ∃ t r, exec .deviceRead s = .next t ∧ t = { s with cu := t.cu, device := t.device } ∧
      Taken s t s.device c r ∧ r.status = .ok ∧ r.payload.length = 63 ∧
      r.payload.take 5 =
        [pack [⟨s.device.events.toNat, 0, 5⟩, ⟨s.device.retired.toNat, 16, 16⟩],
         pack [⟨s.device.routeMask.toNat, 0, 8⟩, ⟨s.device.feedMask.toNat, 8, 4⟩, ⟨s.device.deviceMask.toNat, 16, 5⟩,
           ⟨if s.device.enable then 1 else 0, 24, 1⟩],
         s.device.summary,
         pack [⟨s.reference.family.code, 0, 1⟩, ⟨s.reference.mode.code, 2, 2⟩, ⟨s.reference.source.code, 4, 2⟩,
           ⟨s.reference.goodRun, 8, 5⟩, ⟨s.reference.badPulses, 16, 16⟩],
         pack [⟨s.timelineA.state.code, 0, 1⟩, ⟨s.timelineA.standard.code, 4, 4⟩, ⟨s.timelineB.state.code, 8, 1⟩,
           ⟨s.timelineB.standard.code, 12, 4⟩]] ∧
      (∀ (i : RouteId) (w : Word), r.payload[5 + i.val / 2]? = some w →
        bits w (16 * (i.val % 2)) 3 = (s.route i).state.code ∧
        bits w (16 * (i.val % 2) + 8) 8 =
          if (s.route i).state.live then i.val + 16 * (s.route i).generation.val else 0) ∧
      (∀ f : FeedId, r.payload[13 + f.val]? = some (pack [⟨(s.feed f).state.code, 0, 3⟩,
        ⟨if ∃ k, k ∈ feedSlots f ∧ (s.slot k).state = .writing then 1 else 0, 3, 1⟩,
        ⟨(feedSlots f).countP (fun k => (s.slot k).state == .ready), 4, 5⟩,
        ⟨((feedSlots f).map (fun k => (s.slot k).hold)).sum, 12, 9⟩,
        ⟨((feedSlots f).map (fun k => (s.slot k).pin)).sum, 22, 9⟩])) ∧
      (∀ p : PortId, r.payload[21 + p.val]? = some (devicePortWord s p)) ∧
      (r.payload.drop 29).take 3 = monitorWords s.monitor s.slots ∧
      (r.payload.drop 32).take 8 = loaderWords s.loader.result ∧
      r.payload.drop 40 = List.replicate 23 0

/-! ## Output boundaries and output lines -/

/-- An output boundary of a running timeline: the counter advances by one, the next parity alternates TOP and BOTTOM in an
interlaced standard and stays FRAME in a progressive one, the next timecode becomes the current one and makes one advance,
and the next boundary moves on by the period, modulo 2^32 (R11); the other timeline, the Reference Unit, the feeds but for
their route counts, the feed ports, the DRAM, the profiles, the rings, the loader and the presets are as they were, and
no slot's record changes but for its state and counts (that of a slot freed is kept by choice, log 32). Of the device
scope, the masks and the global enable are as they were, the retired set gains the routes retired at this boundary and
loses none, and the pending set gains AUTO_RETIRE where there is one and nothing else (R63, R64, R158, R160). A stopped
timeline produces no boundary (R10, log 3). -/
def Obligations.BoundaryAdvancesTheTimeline : Prop :=
  ∀ (s : State) (u : TimelineId),
    ((s.timeline u).state = .stopped → exec (.outputBoundary u) s = .next s) ∧
    ((s.timeline u).state = .running →
      ∃ t, exec (.outputBoundary u) s = .next t ∧
        t = { s with
          timelineA := t.timelineA, timelineB := t.timelineB, routes := t.routes, slots := t.slots, feeds := t.feeds
          ports := t.ports, monitor := t.monitor, device := t.device } ∧
        (∀ v, v ≠ u → t.timeline v = s.timeline v) ∧
        t.timeline u = { s.timeline u with
          counter := (s.timeline u).counter + 1
          nextParity := if (s.timeline u).standard.interlaced then
              (if (s.timeline u).nextParity = .top then .bottom else .top)
            else .frame
          currentTimecode := some (s.timeline u).nextTimecode
          nextTimecode := (s.timeline u).standard.advance (s.timeline u).nextTimecode
          nextBoundary := (s.timeline u).nextBoundary.map
            (fun b => b + BitVec.ofNat 32 (s.timeline u).standard.nominal) } ∧
        (∀ f, t.feed f = { s.feed f with routeCount := (t.feed f).routeCount }) ∧
        (∀ k, t.slot k = { s.slot k with
          state := (t.slot k).state, hold := (t.slot k).hold, pin := (t.slot k).pin }) ∧
        (∀ gone : RouteId → Bool,
          (∀ i, gone i = true ↔ (s.port (s.route i).port).timeline = u ∧
            ((s.route i).state = .starved ∨ (s.route i).state = .lapsed) ∧
            ∃ l, (s.route i).setting.retireLimit = some l ∧ l ≤ min 65535 ((s.route i).lapse + 1)) →
          t.device = { s.device with
            events := s.device.events ||| (if (List.finRange 16).any gone then 0x10 else 0)
            retired := t.device.retired, summary := t.device.summary, line := t.device.line } ∧
          ∀ i : RouteId, t.device.retired.getLsbD i.val = (s.device.retired.getLsbD i.val || gone i)) ∧
        t.SummaryOk)

/-- What a boundary does to the records that are not RUNNING (R62, R63, R64, R71, R90): those off the timeline and the
FREE ones are as they were; a PRIMING one, and a HELD one with fewer than 2 window entries, keep all but their picture
and last dominant sequence number; a HELD one with at least 2 steps its phase, uncounted; a CLOSING one releases its
pair and is FREE; a STARVED or LAPSED one advances its lapse and is retired at its retire limit, or, STARVED, lapses
at a nonzero hold limit. The frozen flag of a route without a pair is clear (log 19), and what a record that becomes FREE
keeps in its other fields is the model's choice (log 24). -/
def Obligations.BoundaryMovesTheRoutes : Prop :=
  ∀ (s : State) (u : TimelineId), (s.timeline u).state = .running →
    ∃ t, exec (.outputBoundary u) s = .next t ∧
      (∀ i, (s.port (s.route i).port).timeline ≠ u ∨ (s.route i).state = .free → t.route i = s.route i) ∧
      (∀ i, (s.port (s.route i).port).timeline = u →
        ((s.route i).state = .priming ∨ ((s.route i).state = .held ∧ (s.route i).window.length < 2) →
          t.route i = { s.route i with picture := (t.route i).picture, lastDominant := (t.route i).lastDominant }) ∧
        (∀ φ : Int, (s.route i).state = .held → 2 ≤ (s.route i).window.length →
          φ = max 0 (min (65536 * (((s.route i).window.length : Int) - 1) - 1)
            ((s.route i).phase + (s.route i).baseStep (s.feed (s.route i).feed).period +
              max (-2048) (min 2048 ((s.route i).error.tdiv 64)))) →
          t.route i = { s.route i with
            phase := φ, error := 65536 + 1310 * (s.route i).setting.trim - φ
            picture := (t.route i).picture, lastDominant := (t.route i).lastDominant }) ∧
        ((s.route i).state = .closing →
          t.route i = { s.route i with state := .free, pair := none, picture := none }) ∧
        (∀ lapse, (s.route i).state = .starved ∨ (s.route i).state = .lapsed →
          lapse = min 65535 ((s.route i).lapse + 1) →
          ((∃ l, (s.route i).setting.retireLimit = some l ∧ l ≤ lapse) →
            t.route i = { s.route i with
              state := .free, generation := (s.route i).generation + 1, window := [], pair := none, frozen := false
              cadence := none, checker := none, events := 0, picture := none, lapse := lapse } ∧
            t.device.retired.getLsbD i.val = true ∧ t.device.events.getLsbD 4 = true) ∧
          ((∀ l, (s.route i).setting.retireLimit = some l → lapse < l) →
            ((s.route i).state = .starved → (s.route i).setting.holdLimit ≠ 0 →
              (s.route i).setting.holdLimit ≤ lapse →
              t.route i = { s.route i with
                state := .lapsed, pair := none, frozen := false, lapse := lapse
                events := (s.route i).events ||| 0x20
                picture := (t.route i).picture, lastDominant := (t.route i).lastDominant }) ∧
            ((s.route i).state = .lapsed ∨ (s.route i).setting.holdLimit = 0 ∨
                lapse < (s.route i).setting.holdLimit →
              t.route i = { s.route i with
                lapse := lapse, picture := (t.route i).picture, lastDominant := (t.route i).lastDominant }))))

/-- A boundary of a RUNNING route with at least 2 window entries (R81 to R88, R105, R62): φ becomes φ + S + corr, clamped
to 0 and the window's ceiling, e becomes C − φ; A = floor(φ/65,536) and w select the pair, which is shaped by the route's
profile as it stands; the snapshot is replaced, OUTPUTS advances by one, EARLY or LATE counts the clamp of a settled
route, a LIVE picture is begun; a checker part is handed the dominant admit number and S (R138 to R140). -/
def Obligations.BoundaryStepsTheRunningRoutes : Prop :=
  ∀ (s : State) (u : TimelineId), (s.timeline u).state = .running →
    ∃ t, exec (.outputBoundary u) s = .next t ∧
      (∀ (i : RouteId) (n e step w : Nat) (x φ : Int) (profile : Profile),
        (s.route i).state = .running → (s.port (s.route i).port).timeline = u → n = (s.route i).window.length → 2 ≤ n →
        e = (s.feed (s.route i).feed).period → profile = s.profile (s.route i).setting.profile →
        ((s.route i).lock = none ∧ step = (16777216 * (s.route i).outStandard.nominal + e / 2) / e) ∨
          (∃ l len d, (s.route i).lock = some l ∧
            (l.pattern, len, d) ∈ [(Pattern.f23, 5, 4), (Pattern.p23, 5, 2), (Pattern.p22, 2, 1)] ∧
            step = (16777216 * (s.route i).outStandard.nominal * d + e * len / 2) / (e * len)) →
        x = (s.route i).phase + step + max (-2048) (min 2048 ((s.route i).error.tdiv 64)) →
        φ = max 0 (min (65536 * ((n : Int) - 1) - 1) x) →
        (w : Int) = (φ % 65536 + 512) / 1024 →
        ∃ (a b : WindowEntry) (pair : OutputPair) (events : BitVec 8),
          (s.route i).window[(φ / 65536).toNat]? = some a ∧ (s.route i).window[(φ / 65536).toNat + 1]? = some b ∧
          pair =
            { slots := if w = 0 then .onlyA a.slot else if w = 64 then .onlyB b.slot else .both a.slot b.slot
              weight := w, shaped := profile.shape w, curve := profile } ∧
          events = (s.route i).events ||| (if (s.route i).settled ∧ x < 0 then 0x02 else 0) |||
            (if (s.route i).settled ∧ 65536 * ((n : Int) - 1) - 1 < x then 0x01 else 0) ∧
          t.route i = { s.route i with
            phase := φ, error := 65536 + 1310 * (s.route i).setting.trim - φ
            pair := some pair, frozen := false
            snapshot := some
              { seqA := a.seq, seqB := b.seq, weight := w, dominant := if w < 32 then a.seq else b.seq }
            counters := { (s.route i).counters with
              outputs := (s.route i).counters.outputs + 1
              early := if (s.route i).settled ∧ x < 0 then min 65535 ((s.route i).counters.early + 1)
                else (s.route i).counters.early
              late := if (s.route i).settled ∧ 65536 * ((n : Int) - 1) - 1 < x then
                  min 65535 ((s.route i).counters.late + 1)
                else (s.route i).counters.late
              continuityErrors := (t.route i).counters.continuityErrors }
            checker := (t.route i).checker, events := (t.route i).events
            lastDominant := (t.route i).lastDominant
            picture := some
              { kind := .live, slots := pair.slots, weight := w, shaped := pair.shaped, curve := some profile
                standard := (s.route i).outStandard, parity := (s.timeline u).nextParity, clipped := false
                nextLine := 0 } } ∧
          ((s.route i).checker = none →
            (t.route i).checker = none ∧ (t.route i).events = events ∧
            (t.route i).counters.continuityErrors = (s.route i).counters.continuityErrors) ∧
          (∀ (part : CheckerPart) (number : BitVec 32), (s.route i).checker = some part →
            number = (if w < 32 then a.admitNumber else b.admitNumber) →
            (part.previous = none →
              (t.route i).checker = some { part with previous := some number } ∧ (t.route i).events = events ∧
              (t.route i).counters.continuityErrors = (s.route i).counters.continuityErrors) ∧
            (∀ (prev : BitVec 32) (ok : Bool) (results : List Bool), part.previous = some prev →
              ok = decide ((number - prev).toNat ≤ (step + 65535) / 65536 + 1) →
              results = (if part.results.length < 64 then part.results ++ [ok] else part.results.drop 1 ++ [ok]) →
              (t.route i).counters.continuityErrors =
                (if ok then (s.route i).counters.continuityErrors
                 else min 65535 ((s.route i).counters.continuityErrors + 1)) ∧
              (part.state = .hunt → ok = true → part.run + 1 = 8 →
                (t.route i).checker = some { state := .sync, run := 8, results := [], previous := some number } ∧
                (t.route i).events = events ||| 0x80) ∧
              (part.state = .hunt → ok = true → part.run + 1 ≠ 8 →
                (t.route i).checker = some { part with run := part.run + 1, previous := some number } ∧
                (t.route i).events = events) ∧
              (part.state = .hunt → ok = false →
                (t.route i).checker = some { part with run := 0, previous := some number } ∧
                (t.route i).events = events) ∧
              (part.state = .sync → results.count false ≤ 12 →
                (t.route i).checker = some { part with results := results, previous := some number } ∧
                (t.route i).events = events) ∧
              (part.state = .sync → 12 < results.count false →
                (t.route i).checker = some { state := .hunt, run := 0, results := [], previous := some number } ∧
                (t.route i).events = events ||| 0x80))))

/-- What a boundary makes the ports of the timeline carry, where no two live records name one port (R121, R122, R126,
R128, R133): BLACK with the timeline's timecode and no packets when no live record names the port, under mute, for a
LAPSED route and without a pair; otherwise LIVE for a RUNNING route and HOLD for any other, with the mapper's list of
the dominant slot and the timecode of the route's mode; its lines are in the timeline's standard (R113). At LIVE and HOLD
content, muted or not, the last dominant sequence number becomes the dominant slot's. A route that is not RUNNING has a
REPEAT picture of its pair where HOLD is carried and no picture where BLACK is (R114). Ports off the timeline are as they
were. Records act before ports and ports before the monitor (log 12). No run has a RUNNING route without a pair here; that
its port is BLACK, where R121 has LIVE, is the model's choice (log 18). -/
def Obligations.BoundaryDecidesThePorts : Prop :=
  ∀ (s : State) (u : TimelineId) (st : Standard) (house : Timecode), (s.timeline u).state = .running → s.CountsOk →
    st = (s.timeline u).standard → house = (s.timeline u).nextTimecode →
    ∃ t, exec (.outputBoundary u) s = .next t ∧
      (∀ p, (s.port p).timeline ≠ u → t.port p = s.port p) ∧
      (∀ p, (s.port p).timeline = u →
        ((∀ i, ¬((t.route i).state.live = true ∧ (t.route i).port = p)) →
          t.port p = { s.port p with standard := st, content := .black, packets := [], timecode := some house }) ∧
        (∀ i, (t.route i).state.live = true → (t.route i).port = p →
          ((t.route i).state = .lapsed ∨ (t.route i).pair = none →
            t.port p = { s.port p with standard := st, content := .black, packets := [], timecode := some house } ∧
            (t.route i).lastDominant = (s.route i).lastDominant ∧
            ((t.route i).state ≠ .running → (t.route i).picture = none)) ∧
          (∀ (pair : OutputPair) (d : SlotId), (t.route i).state ≠ .lapsed → (t.route i).pair = some pair →
            pair.slots = .onlyA d ∨ pair.slots = .onlyB d ∨
              (∃ a b, pair.slots = .both a b ∧ d = if pair.weight < 32 then a else b) →
            (t.route i).lastDominant = some (s.slot d).seq ∧
            ((t.route i).state ≠ .running →
              (t.route i).picture =
                if (s.port p).mute then none
                else some
                  { kind := .repeated, slots := pair.slots, weight := pair.weight, shaped := pair.shaped
                    curve := some pair.curve, standard := (s.route i).outStandard
                    parity := (s.timeline u).nextParity, clipped := false, nextLine := 0 }) ∧
            t.port p =
              (if (s.port p).mute then
                { s.port p with standard := st, content := .black, packets := [], timecode := some house }
               else
                { s.port p with
                  standard := st
                  content := if (t.route i).state = .running then .live else .hold
                  packets := outputList (s.route i).setting
                    (decide ((s.route i).lastDominant ≠ some (s.slot d).seq)) (s.slot d).packets
                  timecode :=
                    match (s.route i).setting.timecode with
                    | .off => none
                    | .source => (s.slot d).timecode
                    | .house => some house }))))

/-- What a boundary makes the monitor carry (R143, R145, R146): a feed view shows its latest, pinned as its pair, when
the family of the latest's standard is the timeline's, and is BLACK with its pair released otherwise; a port view
copies its port; the off view is BLACK at timeline A's boundaries; at another timeline's boundary nothing changes. Its
lines are in the timeline's standard (R113). Records act before ports and ports before the monitor (log 12); no timeline
shows a latest without a standard (log 18); the picture's kind and w′ are the model's choice (log 31). -/
def Obligations.BoundaryDecidesTheMonitor : Prop :=
  ∀ (s : State) (u : TimelineId), (s.timeline u).state = .running →
    ∃ t, exec (.outputBoundary u) s = .next t ∧
      ((s.monitor.view = .off ∧ u = .b) ∨ (∃ p, s.monitor.view = .port p ∧ (s.port p).timeline ≠ u) ∨
          (∃ f v, s.monitor.view = .feed f v ∧ v ≠ u) → t.monitor = s.monitor) ∧
      (s.monitor.view = .off → u = .a →
        t.monitor = { s.monitor with
          standard := (s.timeline u).standard, content := .black, packets := []
          timecode := some (s.timeline u).nextTimecode, picture := none }) ∧
      (∀ p, s.monitor.view = .port p → (s.port p).timeline = u →
        t.monitor = { s.monitor with
          standard := (s.timeline u).standard, content := .copy, packets := (t.port p).packets
          timecode := (t.port p).timecode, picture := none }) ∧
      (∀ f, s.monitor.view = .feed f u →
        (∀ i st, s.monitor.latest = some i → (s.slot i).standard = some st →
          st.family = (s.timeline u).standard.family →
          t.monitor = { s.monitor with
            standard := (s.timeline u).standard, pair := some i, content := .picture, packets := (s.slot i).packets, timecode := (s.slot i).timecode
            picture := some
              { kind := .live, slots := .onlyA i, weight := 0, shaped := 0, curve := none
                standard := (s.timeline u).standard, parity := (s.timeline u).nextParity, clipped := false
                nextLine := 0 } }) ∧
        (s.monitor.latest = none ∨ (∃ i, s.monitor.latest = some i ∧
            ∀ st, (s.slot i).standard = some st → st.family ≠ (s.timeline u).standard.family) →
          t.monitor = { s.monitor with
            standard := (s.timeline u).standard, pair := none, content := .black, packets := []
            timecode := some (s.timeline u).nextTimecode, picture := none }))

/-- The next line of an output. Of a port's picture in progress, a port that carries BLACK is sent a black line and
any other the blended samples brought into the legal range, and the picture moves on by a line, its first clamped sample
setting the clipped flag (R104); in a live route's LIVE picture that advances CLIPS and raises CLIP (R106, R112). Without
a line left the port is sent black. Black lines are in the standard of the interval in progress (R113, R15; log 29 where
no boundary has set it). A monitor that copies the port carries the same line (R146). The monitor in a feed view sends
the lines of its own picture, clamped and not counted, or black (R115, R143). The line stands on the pins until the next
one, and black lines follow a picture's last (log 11). BlendStaysBetweenItsSamples says what the blended samples are. -/
def Obligations.OutputLineProducesALine : Prop :=
  (∀ (s : State) (p : PortId) (black : List Pel),
    black = List.replicate (s.port p).standard.width { luma := 64, chroma := 512 } →
    ∃ t, exec (.outputLine (.port p)) s = .next t ∧
      t = { s with routes := t.routes, ports := t.ports, monitor := t.monitor, device := t.device } ∧
      Notified s t s.device.events ∧
      (∀ q, q ≠ p → t.port q = s.port q) ∧ t.port p = { s.port p with lineOut := (t.port p).lineOut } ∧
      t.monitor = (if s.monitor.content = .copy ∧ s.monitor.view = .port p then
          { s.monitor with lineOut := (t.port p).lineOut } else s.monitor) ∧
      ((∀ i pic, (s.route i).state ≠ .free → (s.route i).port = p → (s.route i).picture = some pic →
          pic.standard.lines ≤ pic.nextLine) →
        t.routes = s.routes ∧ (t.port p).lineOut = black) ∧
      (∀ (i : RouteId) (pic : Picture) (samples : List (Nat × Nat)) (clamped : Bool),
        (s.route i).state ≠ .free → (s.route i).port = p → (s.route i).picture = some pic →
        pic.nextLine < pic.standard.lines →
        (∀ j, j < i → (s.route j).state ≠ .free → (s.route j).port = p →
          ∀ q, (s.route j).picture = some q → q.standard.lines ≤ q.nextLine) →
        samples = (List.range pic.standard.width).map (blendPel s.dram s.slots pic pic.nextLine) →
        clamped = samples.any (fun x =>
          decide (x.1 < 64) || decide (940 < x.1) || decide (x.2 < 64) || decide (960 < x.2)) →
        (∀ j, j ≠ i → t.route j = s.route j) ∧
        (t.port p).lineOut =
          (if (s.port p).content = .black then black
           else samples.map (fun x =>
            { luma := BitVec.ofNat 10 (max 64 (min 940 x.1)), chroma := BitVec.ofNat 10 (max 64 (min 960 x.2)) })) ∧
        (t.route i).picture = some { pic with nextLine := pic.nextLine + 1, clipped := pic.clipped || clamped } ∧
        t.route i =
          (if clamped = true ∧ pic.clipped = false ∧ pic.kind = .live ∧ (s.route i).state.live = true then
            { s.route i with
              picture := (t.route i).picture
              counters := { (s.route i).counters with clips := min 65535 ((s.route i).counters.clips + 1) }
              events := (s.route i).events ||| 0x40 }
           else { s.route i with picture := (t.route i).picture }))) ∧
  (∀ s : State,
    ∃ t, exec (.outputLine .monitor) s = .next t ∧ t = { s with monitor := t.monitor, device := t.device } ∧
      Notified s t s.device.events ∧
      (s.monitor.content = .copy → t.monitor = s.monitor) ∧
      (s.monitor.content = .black ∨ (s.monitor.content = .picture ∧
          ∀ pic, s.monitor.picture = some pic → pic.standard.lines ≤ pic.nextLine) →
        t.monitor = { s.monitor with
          lineOut := List.replicate s.monitor.standard.width { luma := 64, chroma := 512 } }) ∧
      (∀ (pic : Picture) (samples : List (Nat × Nat)), s.monitor.content = .picture → s.monitor.picture = some pic →
        pic.nextLine < pic.standard.lines →
        samples = (List.range pic.standard.width).map (blendPel s.dram s.slots pic pic.nextLine) →
        t.monitor = { s.monitor with
          lineOut := samples.map (fun x =>
            { luma := BitVec.ofNat 10 (max 64 (min 940 x.1)), chroma := BitVec.ofNat 10 (max 64 (min 960 x.2)) })
          picture := some { pic with
            nextLine := pic.nextLine + 1
            clipped := pic.clipped || samples.any (fun x =>
              decide (x.1 < 64) || decide (940 < x.1) || decide (x.2 < 64) || decide (960 < x.2)) } }))

/-! ## Picture starts, lines and ends -/

/-- An accepted start with no picture in flight (R23, R24, R41 to R43, R67). EMPTY and LOST enter ACQUIRE with the
runs cleared, EMPTY with E at nominal; the start takes the next sequence number and restarts the silence timer; the
port begins afresh. The picture is stored when the feed is then in ACQUIRE or LOCKED and a PRIMING, RUNNING or HELD
route or the monitor takes it: in the feed's lowest FREE slot, which becomes WRITING, or else it overruns. A return
from LOST takes STARVED and LAPSED routes to PRIMING and flushes the HELD ones; no other slot's record changes but for
its state and counts (that of a slot freed is kept by choice, log 32). The field identification is an operand
(log 25). -/
def Obligations.AcceptedStartsAreTaken : Prop :=
  ∀ (s : State) (f : FeedId) (st : Standard) (tick : Tick) (bottom : Bool) (m : Option Tick) (state : FeedState)
    (stores : Bool), (s.feed f).standard = some st → (s.feed f).inFlight = false →
    m = (s.feed f).lastStart.map (fun last => tick - last) → (∀ x, m = some x → 3 * st.nominal / 4 ≤ x.toNat) →
    state = (if (s.feed f).state = .empty ∨ (s.feed f).state = .lost then .acquire else (s.feed f).state) →
    (stores = true ↔ (state = .acquire ∨ state = .locked) ∧
      ((∃ i, (s.route i).feed = f ∧ ((s.route i).state = .priming ∨ (s.route i).state = .running ∨
          (s.route i).state = .held)) ∨ ∃ u, s.monitor.view = .feed f u)) →
    ∃ t, exec (.pictureStart f tick bottom) s = .next t ∧
      t = { s with
        feeds := t.feeds, feedPorts := t.feedPorts, slots := t.slots, routes := t.routes, device := t.device } ∧
      Notified s t s.device.events ∧
      (∀ g, g ≠ f → t.feed g = s.feed g ∧ t.feedPort g = s.feedPort g) ∧
      t.feedPort f = { s.feedPort f with
        framing := .accepted, lineCount := 0, rows := [], timecode := none, packets := []
        parity := if st.interlaced then (if bottom then .bottom else .top) else .frame } ∧
      t.feed f = { s.feed f with
        state := state
        period := if (s.feed f).state = .empty then 256 * st.nominal else (s.feed f).period
        goodRun := if state = (s.feed f).state then (s.feed f).goodRun else 0
        rejectRun := if state = (s.feed f).state then (s.feed f).rejectRun else 0
        badRun := if state = (s.feed f).state then (s.feed f).badRun else 0
        nextSeq := (s.feed f).nextSeq + 1, measurement := m, lastStart := some tick, inFlight := true
        writing := (t.feed f).writing, overruns := (t.feed f).overruns, events := (t.feed f).events } ∧
      (stores = false →
        (t.feed f).writing = none ∧ (t.feed f).overruns = (s.feed f).overruns ∧
        (t.feed f).events = (s.feed f).events ||| (if state = (s.feed f).state then 0 else 0x1) ∧
        ((s.feed f).state ≠ .lost → t.slots = s.slots)) ∧
      (∀ k : SlotId, stores = true → k.val / 16 = f.val → (s.slot k).state = .free →
        (∀ j : SlotId, j < k → j.val / 16 = f.val → (s.slot j).state ≠ .free) →
        (t.feed f).writing = some k ∧ (t.feed f).overruns = (s.feed f).overruns ∧
        (t.feed f).events = (s.feed f).events ||| (if state = (s.feed f).state then 0 else 0x1) ∧
        t.slot k =
          { state := .writing, seq := (s.feed f).nextSeq, standard := some st, parity := (t.feedPort f).parity
            timecode := none, packets := [], hold := 0, pin := 0 } ∧
        ((s.feed f).state ≠ .lost → t.slots = tset s.slots k (t.slot k))) ∧
      (stores = true → (∀ j : SlotId, j.val / 16 = f.val → (s.slot j).state ≠ .free) →
        (t.feed f).writing = none ∧ (t.feed f).overruns = min 65535 ((s.feed f).overruns + 1) ∧
        (t.feed f).events = (s.feed f).events ||| (if state = (s.feed f).state then 0 else 0x1) ||| 0x2 ∧
        ((s.feed f).state ≠ .lost → t.slots = s.slots)) ∧
      (∀ k, (t.feed f).writing ≠ some k → t.slot k = { s.slot k with
        state := (t.slot k).state, hold := (t.slot k).hold, pin := (t.slot k).pin }) ∧
      (∀ j, t.route j =
        if (s.feed f).state = .lost ∧ (s.route j).feed = f ∧
            ((s.route j).state = .starved ∨ (s.route j).state = .lapsed ∨ (s.route j).state = .held) then
          { s.route j with
            state := if (s.route j).state = .held then .held else .priming
            phase := if (s.route j).state = .held then (s.route j).phase else 0
            error := if (s.route j).state = .held then (s.route j).error else 0
            window := [], settled := false
            cadence := (s.route j).cadence.map (fun _ => { history := [], lock := none })
            checker :=
              (s.route j).checker.map (fun _ => { state := .hunt, run := 0, results := [], previous := none }) }
        else s.route j)

/-- A start on an UNCONFIGURED feed is ignored (R18). A start sooner than floor(3N/4) after the last accepted one is a
runt: it is counted, raises RUNT, and changes nothing else but to what the port's framing belongs (R23). An accepted
start with a picture in flight first truncates it (R24, R25): the picture is damaged, its verdict is bad, and its
writing slot is FREE again. Then the port begins afresh, and the new picture is stored when the feed is then in ACQUIRE
or LOCKED and something takes it: in the feed's lowest FREE slot, the one just handed back among them, which becomes
WRITING, or else it overruns (R41 to R43). No route is handed the truncated picture (R94); when it takes the feed to
MISMATCH its PRIMING and RUNNING routes are STARVED (R66). No other slot's record changes but for its state and counts;
that of a slot handed back or freed is kept by choice (log 32). The model's choices besides: what becomes of a runt's
framing (log 17), that the frozen flag is set only with a pair (log 19), and the field identification as an operand
(log 25). -/
def Obligations.RuntsAndTruncations : Prop :=
  (∀ (s : State) (f : FeedId) (tick : Tick) (bottom : Bool), s.SummaryOk → (s.feed f).standard = none →
    exec (.pictureStart f tick bottom) s = .next s) ∧
  (∀ (s : State) (f : FeedId) (st : Standard) (tick last : Tick) (bottom : Bool), (s.feed f).standard = some st →
    (s.feed f).lastStart = some last → (tick - last).toNat < 3 * st.nominal / 4 →
    ∃ t, exec (.pictureStart f tick bottom) s = .next t ∧
      t = { s with
        feeds := tset s.feeds f { s.feed f with
          runts := min 65535 ((s.feed f).runts + 1), events := (s.feed f).events ||| 0x8 }
        feedPorts := tset s.feedPorts f { s.feedPort f with framing := .runt }
        device := t.device } ∧
      Notified s t s.device.events) ∧
  (∀ (s : State) (f : FeedId) (st : Standard) (tick last : Tick) (bottom : Bool) (g : Feed) (stores : Bool)
    (free : SlotId → Prop) (events : BitVec 4), s.FeedsOk →
    (s.feed f).standard = some st → (s.feed f).inFlight = true → (s.feed f).lastStart = some last →
    3 * st.nominal / 4 ≤ (tick - last).toNat → g = (s.feed f).applyVerdict st .bad →
    (stores = true ↔ (g.state = .acquire ∨ g.state = .locked) ∧
      ((∃ i, (s.route i).feed = f ∧ ((s.route i).state = .priming ∨ (s.route i).state = .running ∨
          (s.route i).state = .held)) ∨ ∃ u, s.monitor.view = .feed f u)) →
    (∀ k, free k ↔ k.val / 16 = f.val ∧ ((s.slot k).state = .free ∨ (s.feed f).writing = some k)) →
    events = (s.feed f).events ||| 0x4 ||| (if g.state = (s.feed f).state then 0 else 0x1) →
    ∃ t, exec (.pictureStart f tick bottom) s = .next t ∧
      t = { s with
        feeds := t.feeds, feedPorts := t.feedPorts, slots := t.slots, routes := t.routes, device := t.device } ∧
      Notified s t s.device.events ∧ (∀ h, h ≠ f → t.feed h = s.feed h ∧ t.feedPort h = s.feedPort h) ∧
      t.feed f = { s.feed f with
        state := g.state, goodRun := g.goodRun, rejectRun := g.rejectRun, badRun := g.badRun, rejects := g.rejects
        damaged := min 65535 ((s.feed f).damaged + 1), nextSeq := (s.feed f).nextSeq + 1
        measurement := some (tick - last), lastStart := some tick
        writing := (t.feed f).writing, overruns := (t.feed f).overruns, events := (t.feed f).events } ∧
      t.feedPort f = { s.feedPort f with
        framing := .accepted, lineCount := 0, rows := [], timecode := none, packets := []
        parity := if st.interlaced then (if bottom then .bottom else .top) else .frame } ∧
      (stores = false →
        (t.feed f).writing = none ∧ (t.feed f).overruns = (s.feed f).overruns ∧ (t.feed f).events = events) ∧
      (∀ k, stores = true → free k → (∀ j, j < k → ¬free j) →
        (t.feed f).writing = some k ∧ (t.feed f).overruns = (s.feed f).overruns ∧ (t.feed f).events = events) ∧
      (stores = true → (∀ j, ¬free j) →
        (t.feed f).writing = none ∧ (t.feed f).overruns = min 65535 ((s.feed f).overruns + 1) ∧
        (t.feed f).events = events ||| 0x2) ∧
      (∀ j, t.route j =
        if (s.route j).feed = f ∧ (s.feed f).state ≠ .mismatch ∧ g.state = .mismatch ∧
            ((s.route j).state = .priming ∨ (s.route j).state = .running) then
          { s.route j with
            state := .starved, window := [], settled := false, lapse := 0, frozen := (s.route j).pair.isSome
            cadence := (s.route j).cadence.map (fun _ => { history := [], lock := none })
            checker :=
              (s.route j).checker.map (fun _ => { state := .hunt, run := 0, results := [], previous := none })
            events := (s.route j).events ||| 0x10 }
        else s.route j) ∧
      (∀ k, (t.feed f).writing = some k → t.slot k =
        { state := .writing, seq := (s.feed f).nextSeq, standard := some st, parity := (t.feedPort f).parity
          timecode := none, packets := [], hold := 0, pin := 0 }) ∧
      (∀ k, (t.feed f).writing ≠ some k →
        t.slot k = { s.slot k with
          state := (t.slot k).state, hold := (t.slot k).hold, pin := (t.slot k).pin } ∧
        ((s.feed f).writing = some k → (t.slot k).state = .free ∧ (t.slot k).hold = 0 ∧ (t.slot k).pin = 0) ∧
        ((s.feed f).writing ≠ some k → (s.feed f).state = .mismatch ∨ g.state ≠ .mismatch → t.slot k = s.slot k)))

/-- The verdicts in the feed state machine (R29, R30, R31): ACQUIRE counts good pictures to LOCKED at the fourth and bad
ones to MISMATCH at the eighth; LOCKED counts rejects and falls back to ACQUIRE at the third bad picture in a row; a good
picture takes MISMATCH to ACQUIRE with E at nominal, with freeze on too (the model's choice, log 30); a neutral one
changes nothing; a change of state raises STATE. -/
def Obligations.VerdictsDriveTheFeedState : Prop :=
  ∀ (f : Feed) (st : Standard),
    f.applyVerdict st .neutral = f ∧
    (f.state = .acquire → f.goodRun < 3 →
      f.applyVerdict st .good = { f with goodRun := f.goodRun + 1, badRun := 0 }) ∧
    (f.state = .acquire → 3 ≤ f.goodRun →
      f.applyVerdict st .good =
        { f with state := .locked, goodRun := 4, rejectRun := 0, badRun := 0, events := f.events ||| 0x1 }) ∧
    (f.state = .acquire → f.badRun < 7 →
      f.applyVerdict st .bad = { f with goodRun := 0, badRun := f.badRun + 1 }) ∧
    (f.state = .acquire → 7 ≤ f.badRun →
      f.applyVerdict st .bad =
        { f with state := .mismatch, goodRun := 0, badRun := 8, events := f.events ||| 0x1 }) ∧
    (f.state = .locked → f.applyVerdict st .good = { f with rejectRun := 0, badRun := 0 }) ∧
    (f.state = .locked → f.rejectRun < 2 →
      f.applyVerdict st .bad =
        { f with
          rejects := min 65535 (f.rejects + 1), rejectRun := f.rejectRun + 1, badRun := min 8 (f.badRun + 1) }) ∧
    (f.state = .locked → 2 ≤ f.rejectRun →
      f.applyVerdict st .bad =
        { f with
          state := .acquire, rejects := min 65535 (f.rejects + 1), goodRun := 0, rejectRun := 0
          badRun := min 8 (f.badRun + 1), events := f.events ||| 0x1 }) ∧
    (f.state = .mismatch →
      f.applyVerdict st .good =
        { f with
          state := .acquire, goodRun := 1, rejectRun := 0, badRun := 0, period := 256 * st.nominal
          events := f.events ||| 0x1 }) ∧
    (f.state = .mismatch → f.applyVerdict st .bad = f)

/-- What arrives for the picture in flight of a feed port. An active line is counted; when it is the line of the next
grid row, the row's 32 luma samples are taken; and while the picture is stored, a line among the standard's is written
to its place in the slot's region, sample by sample, and every other byte of the stacked DRAM reads as before (R18,
R21, R40). A packet joins the ancillary list unless its family is 0 or 16 are there (R19); the first timecode value is
kept (R20). Outside the picture in flight nothing changes (R18, R19, R23; log 17). The order of a sample's bytes is
the model's choice (log 8), and so is the reading of a line of another length (log 26). -/
def Obligations.PicturesArriveAtTheirPorts : Prop :=
  (∀ (s : State) (f : FeedId) (pels : List Pel) (p : Packet) (tc : Timecode),
    (s.feed f).standard = none ∨ (s.feed f).inFlight = false ∨ (s.feedPort f).framing ≠ .accepted →
    exec (.activeLine f pels) s = .next s ∧
    ((s.feed f).inFlight = false ∨ (s.feedPort f).framing ≠ .accepted →
      exec (.ancillaryPacket f p) s = .next s ∧ exec (.pictureTimecode f tc) s = .next s)) ∧
  (∀ (s : State) (f : FeedId) (pels : List Pel) (st : Standard) (k r : Nat), (s.feed f).standard = some st →
    (s.feed f).inFlight = true → (s.feedPort f).framing = .accepted → k = (s.feedPort f).lineCount →
    r = (s.feedPort f).rows.length →
    ∃ t, exec (.activeLine f pels) s = .next t ∧
      t = { s with
        feedPorts := tset s.feedPorts f { s.feedPort f with
          lineCount := k + 1
          rows := if r < 32 ∧ k = (2 * r + 1) * st.lines / 64 then
              (s.feedPort f).rows ++ [(List.range 32).map (fun j =>
                (pels.getD ((2 * j + 1) * st.width / 64) { luma := 64, chroma := 512 }).luma)]
            else (s.feedPort f).rows }
        dram := t.dram } ∧
      ((s.feed f).writing = none ∨ st.lines ≤ k → t.dram = s.dram) ∧
      (∀ (i : SlotId) (base : Nat), (s.feed f).writing = some i → k < st.lines →
        base = i.val * 8388608 + k * (4 * st.width) →
        (∀ a, a < base ∨ base + 4 * min st.width pels.length ≤ a →
          Memory.read t.dram a = Memory.read s.dram a) ∧
        (∀ col pel, col < st.width → pels[col]? = some pel →
          Memory.readWord t.dram (base + 4 * col) = pel.luma.toNat ∧
          Memory.readWord t.dram (base + 4 * col + 2) = pel.chroma.toNat))) ∧
  (∀ (s : State) (f : FeedId) (p : Packet) (tc : Timecode), (s.feed f).inFlight = true →
    (s.feedPort f).framing = .accepted →
    exec (.ancillaryPacket f p) s = .next { s with
      feedPorts := tset s.feedPorts f { s.feedPort f with
        packets := if p.key.family = 0 ∨ 16 ≤ (s.feedPort f).packets.length then (s.feedPort f).packets
          else (s.feedPort f).packets ++ [p] } } ∧
    exec (.pictureTimecode f tc) s = .next { s with
      feedPorts := tset s.feedPorts f { s.feedPort f with
        timecode := if (s.feedPort f).timecode = none then some tc else (s.feedPort f).timecode } })

/-- A picture end gives the picture in flight its verdict (R27): bad and damaged with a wrong line count, else neutral
without a measurement, else good exactly when the measurement lies within floor(N/16) of N. The feed counts it and
applies the verdict (R29 to R31), E moves toward 256·M when a good picture ends in ACQUIRE or LOCKED with TRACK and
without freeze (R32), the comparator's list takes the grid and keeps two (R21), and the slot of a picture that is not
good is handed back FREE (R44). Where no slot is offered, every taking route's detector takes the match flag (R94, R99);
then an entry to MISMATCH starves the PRIMING and RUNNING routes (R66), and the good picture out of MISMATCH returns the
STARVED and LAPSED ones to PRIMING and flushes the HELD ones (R67), with E at nominal whatever the freeze flag (log 30).
The monitor then is as it was, and every slot but the one written keeps its record but for its state and counts (that of a
slot freed is kept by choice, log 32). That the frozen flag is set only with a pair is the model's choice (log 19).
An end with no picture in flight, or one that closes a runt, only ends the framing. An end without an accepted framing is
the model's choice (logs 17, 23). -/
def Obligations.PictureEndsGetTheirVerdict : Prop :=
  (∀ (s : State) (f : FeedId), s.SummaryOk →
    (s.feed f).standard = none ∨ (s.feed f).inFlight = false ∨ (s.feedPort f).framing ≠ .accepted →
    exec (.pictureEnd f) s =
      .next { s with feedPorts := tset s.feedPorts f { s.feedPort f with framing := .none } }) ∧
  (∀ (s : State) (f : FeedId) (st : Standard) (v : Verdict) (grid : Grid) (g : Feed) (matched : Bool),
    (s.feed f).standard = some st → (s.feed f).inFlight = true → (s.feedPort f).framing = .accepted →
    ((s.feedPort f).lineCount ≠ st.lines ∧ v = .bad) ∨
      ((s.feedPort f).lineCount = st.lines ∧ (s.feed f).measurement = none ∧ v = .neutral) ∨
      ((s.feedPort f).lineCount = st.lines ∧ ∃ m, (s.feed f).measurement = some m ∧
        v = if (m.toNat : Int) - st.nominal ≤ (st.nominal / 16 : Nat) ∧
            (st.nominal : Int) - m.toNat ≤ (st.nominal / 16 : Nat) then .good else .bad) →
    grid = (s.feedPort f).rows ++
      List.replicate (32 - (s.feedPort f).rows.length) (List.replicate 32 64) →
    g = (s.feed f).applyVerdict st v →
    matched = matchFlag st (s.feed f).threshold (s.feedPort f).refs grid (s.feedPort f).lineCount →
    ∃ t, exec (.pictureEnd f) s = .next t ∧
      t = { s with
        feeds := t.feeds, feedPorts := t.feedPorts, slots := t.slots, routes := t.routes, monitor := t.monitor
        device := t.device } ∧
      Notified s t s.device.events ∧ (∀ h, h ≠ f → t.feed h = s.feed h ∧ t.feedPort h = s.feedPort h) ∧
      t.feedPort f = { s.feedPort f with
        framing := .none
        refs := if (s.feedPort f).refs.length < 2 then (s.feedPort f).refs ++ [grid]
          else (s.feedPort f).refs.drop 1 ++ [grid] } ∧
      t.feed f = { s.feed f with
        state := g.state, goodRun := g.goodRun, rejectRun := g.rejectRun, badRun := g.badRun, rejects := g.rejects
        pictures := if v = .good then (s.feed f).pictures + 1 else (s.feed f).pictures
        damaged := if (s.feedPort f).lineCount = st.lines then (s.feed f).damaged
          else min 65535 ((s.feed f).damaged + 1)
        events := (s.feed f).events ||| (if (s.feedPort f).lineCount = st.lines then 0 else 0x4) |||
          (if g.state = (s.feed f).state then 0 else 0x1)
        inFlight := false, measurement := none, writing := none, period := (t.feed f).period } ∧
      (∀ m : Tick, (s.feed f).measurement = some m → v = .good →
        (s.feed f).state = .acquire ∨ (s.feed f).state = .locked → (s.feed f).profile = .track →
        (s.feed f).freeze = false →
        ((t.feed f).period : Int) = (s.feed f).period +
          (256 * (m.toNat : Int) - (s.feed f).period).tdiv
            ((tget s.trackK (s.feed f).trackSlot : Nat) : Int)) ∧
      (v = .good → (s.feed f).state = .mismatch → (t.feed f).period = 256 * st.nominal) ∧
      (v ≠ .good ∨ ((s.feed f).state ≠ .mismatch ∧ ((s.feed f).profile = .nominal ∨ (s.feed f).freeze = true)) →
        (t.feed f).period = (s.feed f).period) ∧
      (∀ k, v ≠ .good → (s.feed f).writing = some k →
        (t.slot k).state = .free ∧ (t.slot k).hold = 0 ∧ (t.slot k).pin = 0) ∧
      (∀ k, (s.feed f).writing ≠ some k → t.slot k = { s.slot k with
        state := (t.slot k).state, hold := (t.slot k).hold, pin := (t.slot k).pin }) ∧
      (v ≠ .good ∨ (s.feed f).writing = none → t.monitor = s.monitor) ∧
      (∀ j, (s.route j).feed ≠ f → t.route j = s.route j) ∧
      (∀ (j : RouteId) (r : Route), (s.route j).feed = f → v ≠ .good ∨ (s.feed f).writing = none →
        r = (if (s.route j).state = .priming ∨ (s.route j).state = .running ∨ (s.route j).state = .held then
            ((s.route j).cadenceStep st matched).1
          else s.route j) →
        t.route j =
          if (s.feed f).state ≠ .mismatch ∧ g.state = .mismatch ∧ (r.state = .priming ∨ r.state = .running) then
            { r with
              state := .starved, window := [], settled := false, lapse := 0, frozen := r.pair.isSome
              cadence := r.cadence.map (fun _ => { history := [], lock := none })
              checker := r.checker.map (fun _ => { state := .hunt, run := 0, results := [], previous := none })
              events := r.events ||| 0x10 }
          else if (s.feed f).state = .mismatch ∧ v = .good ∧
              (r.state = .starved ∨ r.state = .lapsed ∨ r.state = .held) then
            { r with
              state := if r.state = .held then .held else .priming
              phase := if r.state = .held then r.phase else 0
              error := if r.state = .held then r.error else 0
              window := [], settled := false
              cadence := r.cadence.map (fun _ => { history := [], lock := none })
              checker := r.checker.map (fun _ => { state := .hunt, run := 0, results := [], previous := none }) }
          else r))

/-- A good picture end of a stored picture in ACQUIRE or LOCKED completes its slot with the port's parity, its timecode
where valid, and its packets (R45), and offers it (R46): the monitor viewing the feed takes it as its latest (R144); every
taking route's detector takes the match flag (R94), and a route that wants the picture admits it (R78 to R80, R61), a full
window losing its oldest entry and φ one picture. The slot stays READY exactly when something keeps it (R49); every other
slot keeps its record but for its state and counts (that of a slot freed is kept by choice, log 32). -/
def Obligations.GoodPicturesAreOffered : Prop :=
  ∀ (s : State) (f : FeedId) (st : Standard) (m : Tick) (k : SlotId) (seq : BitVec 32) (matched : Bool), s.SlotsOk →
    (s.feed f).standard = some st → (s.feed f).inFlight = true → (s.feedPort f).framing = .accepted →
    (s.feedPort f).lineCount = st.lines → (s.feed f).measurement = some m →
    st.nominal - st.nominal / 16 ≤ m.toNat → m.toNat ≤ st.nominal + st.nominal / 16 →
    (s.feed f).state = .acquire ∨ (s.feed f).state = .locked → (s.feed f).writing = some k →
    seq = (s.feed f).nextSeq - 1 →
    matched = matchFlag st (s.feed f).threshold (s.feedPort f).refs
      ((s.feedPort f).rows ++ List.replicate (32 - (s.feedPort f).rows.length) (List.replicate 32 64)) st.lines →
    ∃ t, exec (.pictureEnd f) s = .next t ∧
      t.slot k = { s.slot k with
        parity := (s.feedPort f).parity, timecode := (s.feedPort f).timecode.filter st.validTimecode
        packets := (s.feedPort f).packets, hold := (t.slot k).hold
        state := if (t.slot k).hold = 0 then .free else .ready } ∧
      (∀ j, j ≠ k → t.slot j = { s.slot j with
        state := (t.slot j).state, hold := (t.slot j).hold, pin := (t.slot j).pin }) ∧
      t.monitor = { s.monitor with
        latest := if (∃ u, u ∈ [TimelineId.a, TimelineId.b] ∧ s.monitor.view = .feed f u) then some k
          else s.monitor.latest } ∧
      (∀ j, ¬((s.route j).feed = f ∧ ((s.route j).state = .priming ∨ (s.route j).state = .running ∨
          (s.route j).state = .held)) → t.route j = s.route j) ∧
      (∀ (j : RouteId) (r : Route) (want : Bool) (n : Nat), (s.route j).feed = f →
        (s.route j).state = .priming ∨ (s.route j).state = .running ∨ (s.route j).state = .held →
        (r, want) = (s.route j).cadenceStep st matched → n = (s.route j).window.length →
        t.route j =
          if want = false then r
          else { r with
            window := (if n < 4 then r.window else r.window.drop 1) ++
              [{ slot := k, seq := seq, admitNumber := r.nextAdmit }]
            nextAdmit := r.nextAdmit + 1
            state := if r.state = .priming ∧ n = 1 then .running else r.state
            phase := if r.state = .priming ∧ n = 1 then 0 else if n < 4 then r.phase
              else max (-262144) (r.phase - 65536)
            error := if r.state = .priming ∧ n = 1 then 0 else r.error
            settled := if r.state = .priming ∧ n = 1 then false else r.settled || decide (n = 3) })

/-- The cadence detector (R92 to R98). A route without a part wants every picture. In SEARCH the flag joins the history,
and ten flags that match a pattern of the feed's scan at a rotation lock the part on it, with CADENCE_LOCK. In LOCKED a
picture is discarded at an expected-repeat index with flag 1; with flag 0 there the lock breaks, counted with
CADENCE_BREAK, and a new history begins with the flag; any other index wants the picture. -/
def Obligations.CadenceDetectorDecides : Prop :=
  ∀ (r : Route) (st : Standard) (matched : Bool),
    (r.cadence = none → r.cadenceStep st matched = (r, true)) ∧
    (∀ (c : CadencePart) (history : List Bool), r.cadence = some c → c.lock = none →
      history = (if c.history.length < 10 then c.history ++ [matched] else c.history.drop 1 ++ [matched]) →
      (∀ (p : Pattern) (k : Nat), history.length = 10 → findLock st.patterns history = some (p, k) →
        p ∈ (if st.interlaced then [Pattern.f23] else [Pattern.p23, Pattern.p22]) ∧ k < p.flags.length ∧
        (∀ i, i < 10 → history[i]? = p.flags[(i + k) % p.flags.length]?) ∧
        r.cadenceStep st matched =
          ({ r with
            cadence := some { history := [], lock := some { pattern := p, position := (10 + k) % p.flags.length } }
            events := r.events ||| 0x04 }, true)) ∧
      (history.length ≠ 10 ∨ findLock st.patterns history = none →
        r.cadenceStep st matched = ({ r with cadence := some { history := history, lock := none } }, true)) ∧
      (findLock st.patterns history = none → history.length = 10 →
        ∀ p k, p ∈ (if st.interlaced then [Pattern.f23] else [Pattern.p23, Pattern.p22]) → k < p.flags.length →
          ∃ i, i < 10 ∧ history[i]? ≠ p.flags[(i + k) % p.flags.length]?)) ∧
    (∀ (c : CadencePart) (l : CadenceLock) (expected : Bool), r.cadence = some c → c.lock = some l →
      l.pattern.flags[l.position % l.pattern.flags.length]? = some expected →
      (expected = true → matched = false →
        r.cadenceStep st matched =
          ({ r with
            cadence := some { history := [matched], lock := none }
            counters := { r.counters with cadenceBreaks := min 65535 (r.counters.cadenceBreaks + 1) }
            events := r.events ||| 0x08 }, true)) ∧
      (expected = false ∨ matched = true →
        r.cadenceStep st matched =
          ({ r with
            cadence := some { c with
              lock := some { l with position := (l.position + 1) % l.pattern.flags.length } } }, !expected)))

/-- A silence expiry of a feed in ACQUIRE, LOCKED or MISMATCH takes it to LOST: the last start and the measurement are
absent, a picture in flight is abandoned, counted as damaged and its slot FREE, the reference list is empty, E and the
runs are kept and STATE is raised (R26); its PRIMING and RUNNING routes are STARVED with their windows flushed, their
pairs frozen and their lapse 0 (R66, R65). Every slot keeps its record but for its state and counts, one freed or handed
back among them by choice (log 32). Where the timer does not run nothing changes (log 3). The frozen flag is set only
with a pair (log 19), and a PRIMING route opened in MISMATCH is STARVED too (the model's choice, log 34). -/
def Obligations.SilenceTakesTheFeedToLost : Prop :=
  (∀ (s : State) (f : FeedId), s.SummaryOk → (s.feed f).lastStart = none ∨ (s.feed f).state = .unconfigured ∨
      (s.feed f).state = .empty ∨ (s.feed f).state = .lost → exec (.silenceExpiry f) s = .next s) ∧
  (∀ (s : State) (f : FeedId), (s.feed f).lastStart.isSome →
    (s.feed f).state = .acquire ∨ (s.feed f).state = .locked ∨ (s.feed f).state = .mismatch →
    ∃ t, exec (.silenceExpiry f) s = .next t ∧
      t = { s with
        feeds := tset s.feeds f { s.feed f with
          state := .lost, lastStart := none, measurement := none, inFlight := false
          writing := if (s.feed f).inFlight then none else (s.feed f).writing
          damaged := if (s.feed f).inFlight then min 65535 ((s.feed f).damaged + 1) else (s.feed f).damaged
          events := (s.feed f).events ||| (if (s.feed f).inFlight then 0x4 else 0) ||| 0x1 }
        feedPorts := tset s.feedPorts f { s.feedPort f with refs := [] }
        slots := t.slots, routes := t.routes, device := t.device } ∧
      Notified s t s.device.events ∧
      (∀ k, t.slot k = { s.slot k with
        state := (t.slot k).state, hold := (t.slot k).hold, pin := (t.slot k).pin }) ∧
      (∀ k, (s.feed f).inFlight = true → (s.feed f).writing = some k →
        (t.slot k).state = .free ∧ (t.slot k).hold = 0 ∧ (t.slot k).pin = 0) ∧
      (∀ j, t.route j =
        if (s.route j).feed = f ∧ ((s.route j).state = .priming ∨ (s.route j).state = .running) then
          { s.route j with
            state := .starved, window := [], settled := false, lapse := 0, frozen := (s.route j).pair.isSome
            cadence := (s.route j).cadence.map (fun _ => { history := [], lock := none })
            checker :=
              (s.route j).checker.map (fun _ => { state := .hunt, run := 0, results := [], previous := none })
            events := (s.route j).events ||| 0x10 }
        else s.route j))

/-- The match flag of a picture (R21): set exactly when the picture has its standard's line count, the reference list has
the grid it is compared with (the older of two in an interlaced standard, the newest in a progressive one), and the sum of
the 1,024 absolute differences of the two grids is at most the threshold. -/
def Obligations.MatchFlagComparesTheGrids : Prop :=
  ∀ (st : Standard) (threshold : BitVec 16) (refs : List Grid) (grid old : Grid) (lines : Nat),
    (st.interlaced = true ∧ (∃ newer, refs = [old, newer])) ∨
      (st.interlaced = false ∧ refs.getLast? = some old) →
    grid.length = 32 → (∀ row ∈ grid, row.length = 32) → old.length = 32 → (∀ row ∈ old, row.length = 32) →
    (matchFlag st threshold refs grid lines = true ↔
      lines = st.lines ∧
      ((List.range 32).map (fun i => ((List.range 32).map (fun j =>
        (((old.getD i []).getD j 0).toNat - ((grid.getD i []).getD j 0).toNat) +
          (((grid.getD i []).getD j 0).toNat - ((old.getD i []).getD j 0).toNat))).sum)).sum ≤ threshold.toNat) ∧
    (∀ l : List Grid, (st.interlaced = true ∧ l.length ≠ 2) ∨ l = [] → matchFlag st threshold l grid lines = false)

/-! ## The Start-up Loader -/

/-- The reading of the image, a transaction at a time (R163, R164). The header comes first, and a wrong signature stops the
reading at it; then the length word and the body of each module present, in the order House, Track, Profile, Feed, Preset:
a pointer, or a length, of 0 or 0xFFFF makes a module absent, and a body past word 65,535 is a failed read. A failed read
(a transaction with fewer words than it asks for is one, log 16) stops the reading. With no transaction outstanding nothing
changes (log 3). -/
def Obligations.FlashReadReadsTheImage : Prop :=
  ∀ (s : State) (words : Option (List Word16)) (l : Loader),
    (∀ n, (s.loader.stage = .header ∧ n = 16) ∨ (∃ m p, s.loader.stage = .length m p ∧ n = 1) ∨
        (∃ m, s.loader.stage = .body m n) →
      (words = none ∨ (∃ ws, words = some ws ∧ ws.length < n) →
        exec (.flashRead words) s = .next { s with loader := { s.loader with stage := .stopped .read } }) ∧
      (∀ ws, words = some ws → n ≤ ws.length →
        (s.loader.stage = .header →
          l = { s.loader with
            header := ws.take 16
            stage := if ws[0]? = some 0xD5C3 then
                firstPresent (ws.take 16) [.house, .track, .profile, .feed, .preset]
              else .stopped .signature }) →
        (∀ (m : ModuleId) (p : Nat) (w : Word16), s.loader.stage = .length m p → ws[0]? = some w →
          l = { s.loader with
            stage := if w = 0 ∨ w = 0xFFFF then firstPresent s.loader.header m.later
              else if 65535 < p + w.toNat then .stopped .read
              else .body m w.toNat }) →
        (∀ m, s.loader.stage = .body m n →
          l = { s.loader with
            bodies := s.loader.bodies ++ [(m, ws.take n)], stage := firstPresent s.loader.header m.later }) →
        exec (.flashRead words) s = .next { s with loader := l })) ∧
    (s.loader.stage = .none ∨ s.loader.stage = .complete ∨ (∃ left, s.loader.stage = .applying left) ∨
        (∃ left, s.loader.stage = .opening left) ∨ (∃ cause, s.loader.stage = .stopped cause) →
      exec (.flashRead words) s = .next s)

/-- The end of the load of an ignored image (R164, R170): no block takes anything from it; the loader result says
FAIL, the first test that failed and the sample; LOAD_FAIL is raised; a power-on load starts both timelines at the
tick (R10); and the CU leaves LOADING and evaluates the ring. Before the reading has ended nothing happens (log 3).
The modules reported present are those whose bodies were read (log 14). -/
def Obligations.FailedLoadsApplyNothing : Prop :=
  ∀ (s : State) (tick : Tick),
    (s.loader.stage = .none ∨ s.loader.stage = .header ∨ (∃ m p, s.loader.stage = .length m p) ∨
        (∃ m n, s.loader.stage = .body m n) → exec (.loadEnd tick) s = .next s) ∧
    (∀ (cause : LoadCause) (cu : CommandUnit), cu = { s.cu with state := .idle } →
      s.loader.stage = .stopped cause ∨
        (s.loader.stage = .complete ∧ cause = .checksum ∧
          (s.loader.header ++ s.loader.bodies.flatMap Prod.snd).foldl (· + ·) 0 ≠ 0x6D2B) →
      ∃ t, exec (.loadEnd tick) s = .next t ∧
        t = { s with
          timelineA := t.timelineA, timelineB := t.timelineB, cu := cu.settle cu.judge, device := t.device
          loader := { s.loader with
            stage := .none, header := [], bodies := []
            result :=
              { outcome := .fail, cause := some cause
                version := if cause = .signature then none else s.loader.header[1]?
                modules := s.loader.bodies.map Prod.fst, profileApplied := 0, profileRefused := 0, feedApplied := 0
                feedRefused := 0, autostart := s.loader.autostart, opened := 0, refusals := [] } } } ∧
        (∀ u, t.timeline u = if s.loader.powerOn then
            { state := .running, standard := (s.timeline u).standard
              nextBoundary := some (tick + BitVec.ofNat 32 (s.timeline u).standard.nominal), counter := 0
              nextParity := if (s.timeline u).standard.interlaced then .top else .frame
              nextTimecode := ⟨0, 0, 0, 0, (s.timeline u).standard.drop, false⟩, currentTimecode := none }
          else s.timeline u) ∧
        Notified s t (cu.judge.raises { s.device with events := s.device.events ||| 0x08 }).events)

/-- The load of an accepted image (R164 to R170, R4, R10, R14, R33, R116). First the end of a load whose reading has
just ended. The House module is applied at a power-on load only: a word out of range or absent leaves its default; the
Track module sets slots 2 to 4; each Profile entry is a PROFILE_WRITE, so the last acceptable entry that names a profile
gives its contents; each Feed entry is a FEED_SET of a feed at its reset values: a refused one leaves it, one with
standard 0 sets its other fields; the presets are filled as they stand; without the AUTOSTART sample no route is opened;
the result says DONE and counts, LOAD_DONE is raised, a power-on load starts both timelines, and the CU leaves LOADING and
evaluates the ring. That the House module leaves the standard of a port's black lines is the model's choice (log 29).
Then the parts of a load, one a step while no command waits (the model's choice, logs 4 and 15): the
test of the sum, each module, which changes its own block alone (a STOPPED timeline takes the House module's standard with
the first parity and the drop flag of it, R10), the openings' order, by start order and then by number, and each opening,
which does what a PRESET_OPEN of the preset does (R168, R169). After any of them the load's end comes to what it comes to
without it. -/
def Obligations.AcceptedLoadsApplyTheModules : Prop :=
  (∀ (s : State) (tick : Tick) (cu : CommandUnit) (house track profile feed preset : List Word16) (family : RefFamily)
    (standardA standardB : Standard) (points : Nat → List Nat) (written configured : Nat → Status),
    s.loader.stage = .complete →
    (s.loader.header ++ s.loader.bodies.flatMap Prod.snd).foldl (· + ·) 0 = 0x6D2B →
    house = s.loader.body .house → track = s.loader.body .track → profile = s.loader.body .profile →
    feed = s.loader.body .feed → preset = s.loader.body .preset →
    family = (if s.loader.powerOn then (refFamilyOfCode (flashWord house 0)).getD s.reference.family
      else s.reference.family) →
    standardA = (standardOfCode (flashWord house 1)).getD s.timelineA.standard →
    standardB = (standardOfCode (flashWord house 2)).getD s.timelineB.standard →
    (∀ n, points n = (List.range 17).map (fun k => flashWord profile (19 * n + 2 + k))) →
    (∀ n, written n = firstFailure
      [(decide (flashWord profile (19 * n) < 32), .range), (decide (4 ≤ flashWord profile (19 * n)), .fixed),
       (decide (flashWord profile (19 * n + 1) ≤ 1), .range),
       (decide (flashWord profile (19 * n + 1) = 0 →
          (points n)[0]? = some 0 ∧ (points n)[16]? = some 64 ∧ (points n).Pairwise (· ≤ ·)), .curveInvalid)]) →
    (∀ f, configured f = firstFailure
      [(decide (flashWord feed (5 * f) ≤ 10), .range),
       (decide (flashWord feed (5 * f + 1) ∈ [0, 1, 0xFFFF]), .range),
       (decide (flashWord feed (5 * f + 2) ∈ [0, 1, 2, 3, 4, 0xFFFF]), .range)]) →
    cu = { s.cu with state := .idle } →
    ∃ t, exec (.loadEnd tick) s = .next t ∧
      t = { s with
        reference := t.reference, timelineA := t.timelineA, timelineB := t.timelineB, trackK := t.trackK
        feeds := t.feeds, feedPorts := t.feedPorts, slots := t.slots, routes := t.routes, profiles := t.profiles
        ports := t.ports, presets := t.presets, cu := cu.settle cu.judge, device := t.device
        loader := { s.loader with stage := .none, header := [], bodies := [], result := t.loader.result } } ∧
      t.reference = (if family = s.reference.family then s.reference
        else { s.reference with
          family := family, lastPulse := none, goodRun := 0
          source := if s.reference.source = .locked ∧ s.reference.mode = .auto then .internal
            else if s.reference.source = .locked ∧ s.reference.mode = .manualExternal then .holdover
            else s.reference.source }) ∧
      t.timelineA = (if s.loader.powerOn then
          { state := .running, standard := standardA
            nextBoundary := some (tick + BitVec.ofNat 32 standardA.nominal), counter := 0
            nextParity := if standardA.interlaced then .top else .frame
            nextTimecode := ⟨0, 0, 0, 0, standardA.drop, false⟩, currentTimecode := none }
        else s.timelineA) ∧
      t.timelineB = (if s.loader.powerOn then
          { state := .running, standard := standardB
            nextBoundary := some (tick + BitVec.ofNat 32 standardB.nominal), counter := 0
            nextParity := if standardB.interlaced then .top else .frame
            nextTimecode := ⟨0, 0, 0, 0, standardB.drop, false⟩, currentTimecode := none }
        else s.timelineB) ∧
      (∀ p : PortId, t.port p = { s.port p with
        timeline := if s.loader.powerOn then (timelineOfCode (flashWord house (3 + p.val))).getD (s.port p).timeline
          else (s.port p).timeline }) ∧
      (∀ k : Fin 5, tget t.trackK k =
        if k.val < 2 ∨ flashWord track (k.val - 2) = 0xFFFF then tget s.trackK k
        else max 1 (flashWord track (k.val - 2))) ∧
      (∀ i : ProfileId, (∀ n, n < profile.length / 19 → flashWord profile (19 * n) = i.val → written n ≠ .ok) →
        t.profile i = s.profile i) ∧
      (∀ (i : ProfileId) (n : Nat), n < profile.length / 19 → flashWord profile (19 * n) = i.val → written n = .ok →
        (∀ k, n < k → k < profile.length / 19 → flashWord profile (19 * k) = i.val → written k ≠ .ok) →
        t.profile i = if flashWord profile (19 * n + 1) = 1 then .snap else .curve (points n)) ∧
      (∀ f : FeedId, feed.length < 5 * f.val + 5 ∨ flashWord feed (5 * f.val) = 0xFFFF ∨ configured f.val ≠ .ok →
        t.feed f = { s.feed f with routeCount := (t.feed f).routeCount } ∧ t.feedPort f = s.feedPort f) ∧
      (∀ (f : FeedId) (st : Option Standard), 5 * f.val + 5 ≤ feed.length → configured f.val = .ok →
        st = standardOfCode (flashWord feed (5 * f.val)) → s.feed f = Feed.reset →
        t.feed f = { s.feed f with
          standard := st
          profile := if flashWord feed (5 * f.val + 1) = 1 then .nominal else .track
          trackSlot := if flashWord feed (5 * f.val + 2) = 0xFFFF then 2
            else Fin.ofNat 5 (flashWord feed (5 * f.val + 2))
          freeze := decide (flashWord feed (5 * f.val + 3) ≠ 0xFFFF ∧ flashWord feed (5 * f.val + 3) ≠ 0)
          threshold := if flashWord feed (5 * f.val + 4) = 0xFFFF then 2048
            else BitVec.ofNat 16 (flashWord feed (5 * f.val + 4))
          state := if st = none then .unconfigured else .empty
          period := 256 * (st.map Standard.nominal).getD 0
          events := if st = none then 0 else 0x1
          routeCount := (t.feed f).routeCount } ∧
        t.feedPort f = { s.feedPort f with refs := if st = none then (s.feedPort f).refs else [] }) ∧
      (∀ n : PresetId, tget t.presets n =
        if preset.length < 35 * n.val + 35 ∨ flashWord preset (35 * n.val) = 0xFFFF then none
        else some (presetOfFlash preset (35 * n.val))) ∧
      (s.loader.autostart = false → t.routes = s.routes ∧ t.loader.result.opened = 0 ∧ t.loader.result.refusals = []) ∧
      (s.loader.autostart = true →
        t.loader.result.opened + t.loader.result.refusals.length =
          (List.finRange 16).countP (fun n => (tget t.presets n).any (fun x => decide (x.startOrder ≠ 0)))) ∧
      (t.loader.result.outcome = .done ∧ t.loader.result.cause = none ∧
        t.loader.result.version = s.loader.header[1]? ∧ t.loader.result.modules = s.loader.bodies.map Prod.fst ∧
        t.loader.result.autostart = s.loader.autostart ∧
        t.loader.result.profileApplied = (List.range (profile.length / 19)).countP (fun n => written n == .ok) ∧
        t.loader.result.profileRefused = (List.range (profile.length / 19)).countP (fun n => written n != .ok) ∧
        t.loader.result.feedApplied + t.loader.result.feedRefused =
          (List.range 8).countP
            (fun f => decide (5 * f + 5 ≤ feed.length) && decide (flashWord feed (5 * f) ≠ 0xFFFF))) ∧
      ((∀ f, s.feed f = Feed.reset) → t.slots = s.slots ∧
        t.loader.result.feedApplied = (List.range 8).countP
          (fun f => decide (5 * f + 5 ≤ feed.length) && configured f == .ok)) ∧
      Notified s t (cu.judge.raises
        { s.device with
          events := s.device.events ||| (if t.reference.source = s.reference.source then 0 else 0x01) ||| 0x04 }).events) ∧
  (∀ (s : State) (tick : Tick) (u : State), s.pending = [] → step s = .next u →
    exec (.loadEnd tick) u = exec (.loadEnd tick) s ∧
    (s.loader.stage = .complete →
      u = { s with loader := u.loader, device := u.device } ∧ Notified s u s.device.events ∧
      u.loader =
        (if (s.loader.header ++ s.loader.bodies.flatMap Prod.snd).foldl (· + ·) 0 = 0x6D2B then
          { s.loader with
            result := LoaderResult.cleared
            stage := .applying (if s.loader.powerOn then [.house, .track, .profile, .feed, .preset]
              else [.track, .profile, .feed, .preset]) }
         else { s.loader with stage := .stopped .checksum })) ∧
    (∀ m left, s.loader.stage = .applying (m :: left) →
      u.loader = { s.loader with stage := .applying left, result := u.loader.result } ∧
      (m = .house → u = { s with
        reference := u.reference, timelineA := u.timelineA, timelineB := u.timelineB, ports := u.ports
        loader := { s.loader with stage := .applying left }, device := u.device } ∧
        ∀ (v : TimelineId) (w : Nat), (s.timeline v).state = .stopped →
          (v = .a ∧ w = 1) ∨ (v = .b ∧ w = 2) →
          (standardOfCode (flashWord (s.loader.body .house) w) = none → u.timeline v = s.timeline v) ∧
          ∀ st, standardOfCode (flashWord (s.loader.body .house) w) = some st →
            u.timeline v = { s.timeline v with
              standard := st, nextParity := if st.interlaced then .top else .frame
              nextTimecode := ⟨0, 0, 0, 0, st.drop, false⟩, currentTimecode := none }) ∧
      (m = .track → u = { s with
        trackK := u.trackK, loader := { s.loader with stage := .applying left }, device := u.device }) ∧
      (m = .profile → u = { s with profiles := u.profiles, loader := u.loader, device := u.device }) ∧
      (m = .feed → u = { s with
        feeds := u.feeds, feedPorts := u.feedPorts, slots := u.slots, loader := u.loader, device := u.device }) ∧
      (m = .preset → u = { s with
        presets := u.presets, loader := { s.loader with stage := .applying left }, device := u.device })) ∧
    (s.loader.stage = .applying [] →
      ∃ order, u = { s with loader := { s.loader with stage := .opening order }, device := u.device } ∧
        Notified s u s.device.events ∧
        (∀ n, n ∈ order ↔ s.loader.autostart = true ∧
          ∃ p, tget s.presets n = some p ∧ 1 ≤ p.startOrder ∧ p.startOrder ≤ 16) ∧
        order.Pairwise (fun a b => ∀ p q, tget s.presets a = some p → tget s.presets b = some q →
          p.startOrder < q.startOrder ∨ (p.startOrder = q.startOrder ∧ a < b))) ∧
    (∀ (n : PresetId) (left : List PresetId) (p : Preset), s.loader.stage = .opening (n :: left) →
      tget s.presets n = some p →
      Notified s u s.device.events ∧
      ∀ (v : State) (c : Command), v = { s with cu := v.cu, device := v.device } →
        v.dueCommand = some c → c.kind = .presetOpen → bits (arg c.args 1) 0 8 = n.val →
        ∃ (x : State) (r : Reply), exec .presetOpen v = .next x ∧ Taken v x v.device c r ∧ r.payload.length ≤ 1 ∧
          u = { s with routes := x.routes, feeds := x.feeds, loader := u.loader, device := u.device } ∧
          u.loader = { s.loader with
            stage := .opening left
            result := if r.status = .ok then { s.loader.result with opened := s.loader.result.opened + 1 }
              else { s.loader.result with refusals := s.loader.result.refusals ++ [(n, r.status)] } }))

/-! ## Timecode, phase, weights and packets -/

/-- One advance of a valid timecode value is valid, and either turns the first picture of a pair into the second or steps
the count of the day's timecode frames by one, the last frame of the day being followed by the first (R2, R3). The count
of a drop-counting standard leaves out frames 0 and 1 of every minute not divisible by 10. -/
def Obligations.TimecodeAdvanceCountsFrames : Prop :=
  ∀ (st : Standard) (tc : Timecode) (count : Timecode → Nat), st.validTimecode tc = true →
    (∀ x, count x = ((x.hours * 60 + x.minutes) * 60 + x.seconds) * st.frames + x.frame -
      (if st.drop then 2 * (x.hours * 60 + x.minutes - (x.hours * 60 + x.minutes) / 10) else 0)) →
    st.validTimecode (st.advance tc) = true ∧
    (st.pairs = true → tc.pair = false → st.advance tc = { tc with pair := true }) ∧
    (st.pairs = false ∨ tc.pair = true →
      (st.advance tc).pair = false ∧
      count (st.advance tc) =
        (count tc + 1) % (86400 * st.frames - (if st.drop then 2 * (1440 - 144) else 0)))

/-- A step's clamp and selection (R82 to R85): S is the rounded quotient 2^24·N over E; the correction is at most 2,048
either way; the clamped phase of a window of n entries lies from 0 to 65,536·(n − 1) − 1 and is the phase itself inside
that range; its position A leaves a position B in the window; w is its fraction in 64ths, rounded; w 0 selects A alone and
w 64 B alone, and the dominant slot is B exactly from w 32. -/
def Obligations.PhaseStepStaysInTheWindow : Prop :=
  ∀ (n e nOut : Nat) (x φ error : Int) (a b : WindowEntry), 2 ≤ n → 0 < e → φ = clampPhase n x →
    (-(e : Int) ≤ 2 * (16777216 * (nOut : Int) - plainStep e nOut * e) ∧
      2 * (16777216 * (nOut : Int) - plainStep e nOut * e) ≤ e) ∧
    (-2048 ≤ correction error ∧ correction error ≤ 2048 ∧
      (-131072 < error → error < 131072 → (64 * correction error - error).natAbs < 64)) ∧
    (0 ≤ φ ∧ φ ≤ 65536 * ((n : Int) - 1) - 1 ∧ (0 ≤ x → x ≤ 65536 * ((n : Int) - 1) - 1 → φ = x)) ∧
    positionA φ + 1 < n ∧ weightOf φ ≤ 64 ∧
    (1024 * (weightOf φ : Int) - (φ - 65536 * positionA φ)).natAbs ≤ 512 ∧
    (selectSlots (weightOf φ) a.slot b.slot).dominant (weightOf φ) = (dominantEntry (weightOf φ) a b).slot ∧
    ((selectSlots (weightOf φ) a.slot b.slot).list =
      (if weightOf φ = 0 then [a.slot] else if weightOf φ = 64 then [b.slot] else [a.slot, b.slot])) ∧
    dominantEntry (weightOf φ) a b = (if 32 ≤ weightOf φ then b else a)

/-- Weights, the blend, the legal range and the vertical mapping (R107, R109 to R112), and what a column of an output
line is made of. A valid curve passes through its points, is interpolated between them with the quarter rounded, never
falls and stays at most 64; SNAP gives 0 below 32 and 64 from there. A blend is the rounded mean weighted by w′ in 64ths:
it lies between its two samples and is one of them at 0 and 64. The legal range leaves a legal sample alone. Output line y
lies at q16 of a source picture, held to its first and last lines, and a mapped sample mixes two lines by sixteenths; a
source of the output's own standard and parity is mapped line to line. A picture of one slot takes its mapped samples,
one of two slots blends them by its w′ (R111), each read from its slot's region (R40; byte order: log 8). -/
def Obligations.BlendStaysBetweenItsSamples : Prop :=
  (∀ (points : List Nat) (w v : Nat), curveValid points = true → w ≤ 64 →
    (w % 4 = 0 → points[w / 4]? = some ((Profile.curve points).shape w)) ∧
    (∀ c0 c1, w < 64 → points[w / 4]? = some c0 → points[w / 4 + 1]? = some c1 →
      (Profile.curve points).shape w = c0 + ((c1 - c0) * (w % 4) + 2) / 4) ∧
    (Profile.curve points).shape w ≤ 64 ∧
    (v ≤ w → (Profile.curve points).shape v ≤ (Profile.curve points).shape w)) ∧
  (∀ w, Profile.snap.shape w = if w < 32 then 0 else 64) ∧
  (∀ w a b : Nat, w ≤ 64 →
    (64 * blendSample w a b ≤ (64 - w) * a + w * b + 32 ∧ (64 - w) * a + w * b < 64 * blendSample w a b + 32) ∧
    min a b ≤ blendSample w a b ∧ blendSample w a b ≤ max a b ∧ blendSample 0 a b = a ∧ blendSample 64 a b = b) ∧
  (∀ x : Nat, 64 ≤ legalLuma x ∧ legalLuma x ≤ 940 ∧ 64 ≤ legalChroma x ∧ legalChroma x ≤ 960 ∧
    (64 ≤ x → x ≤ 940 → legalLuma x = x) ∧ (64 ≤ x → x ≤ 960 → legalChroma x = x)) ∧
  (∀ (out src : Standard) (p q : Parity) (y : Nat) (sample : Nat → Nat), y < out.lines →
    (out.interlaced = true ↔ p ≠ .frame) → (src.interlaced = true ↔ q ≠ .frame) →
    linePosition out p src q y ≤ 16 * (src.lines - 1) ∧
    (out = src → p = q → linePosition out p src q y = 16 * y ∧
      mapSample src.lines (linePosition out p src q y) sample = sample y)) ∧
  (∀ (out src : Standard) (p q : Parity) (y place offset step : Nat) (num den : Int),
    (p = .frame ∧ place = y) ∨ (p = .top ∧ place = 2 * y) ∨ (p = .bottom ∧ place = 2 * y + 1) →
    (q = .frame ∧ step = 1 ∧ offset = 0) ∨ (q = .top ∧ step = 2 ∧ offset = 0) ∨
      (q = .bottom ∧ step = 2 ∧ offset = 1) →
    num = 16 * ((place : Int) * src.height - offset * out.height) → den = step * out.height →
    (linePosition out p src q y : Int) =
      if num < 0 then 0 else min ((num + den / 2) / den) (16 * ((src.lines : Int) - 1))) ∧
  (∀ (lines j v : Nat) (sample : Nat → Nat), j < lines → v < 16 →
    mapSample lines (16 * j + v) sample =
      ((16 - v) * sample j + v * sample (if j + 1 < lines then j + 1 else j) + 8) / 16) ∧
  (∀ (dram : List Host.Cell) (slots : SlotTable) (pic : Picture) (y col : Nat) (src : SlotId → Standard)
    (mapped : SlotId → Nat → Nat),
    (∀ i, i ∈ pic.slots.list → (tget slots i).standard = some (src i)) →
    (∀ i k, mapped i k = mapSample (src i).lines (linePosition pic.standard pic.parity (src i) (tget slots i).parity y)
      (fun j => Memory.readWord dram (i.val * 8388608 + j * (4 * (src i).width) + 4 * col + k))) →
    (∀ a, pic.slots = .onlyA a ∨ pic.slots = .onlyB a →
      blendPel dram slots pic y col = (mapped a 0, mapped a 2)) ∧
    (∀ a b, pic.slots = .both a b →
      blendPel dram slots pic y col =
        (blendSample pic.shaped (mapped a 0) (mapped b 0), blendSample pic.shaped (mapped a 2) (mapped b 2))))

/-- What the Ancillary Mapper makes of a packet (R128 to R131): the first map entry with the packet's key decides, and
without one the unmapped action; ONCE acts only on a picture new to the route; a packet retagged to family 0 is dropped;
the packets carried keep their order. -/
def Obligations.MapperActsOnEachPacket : Prop :=
  ∀ (setting : RouteSetting) (new : Bool) (p : Packet) (rest : List Packet) (carried : List Packet),
    p.key.family ≠ 0 →
    ((∀ e ∈ setting.mapList, e.key ≠ p.key) ∧
        carried = (if setting.unmapped = .passEvery ∨ (setting.unmapped = .passOnce ∧ new = true) then [p] else [])) ∨
      (∃ before e after, setting.mapList = before ++ e :: after ∧ e.key = p.key ∧ (∀ x ∈ before, x.key ≠ p.key) ∧
        ((e.action = .drop ∧ carried = []) ∨
         (∃ policy, e.action = .pass policy ∧ carried = if policy = .every ∨ new = true then [p] else []) ∨
         (∃ policy key, e.action = .retag policy key ∧
          carried = if (policy = .every ∨ new = true) ∧ key.family ≠ 0 then [{ p with key := key }] else []))) →
    outputList setting new (p :: rest) = carried ++ outputList setting new rest ∧ outputList setting new [] = [] ∧
    (outputList setting new (p :: rest)).length ≤ rest.length + 1 ∧
    ∀ q ∈ outputList setting new (p :: rest), q.key.family ≠ 0

/-! ## What every step keeps -/

/-- Every step keeps the stacked DRAM in its canonical form, every ancillary list within its bounds, and the monitor's
latest and pair to its feed views, its picture to its pair (R40, R19, R131, R143, R145, R147). -/
def Obligations.StepKeepsMemoryListsAndMonitor : Prop :=
  ∀ s t : State, step s = .next t →
    (Memory.wf s.dram → Memory.wf t.dram) ∧ (s.ListsOk → t.ListsOk) ∧ (s.MonitorOk → t.MonitorOk)

/-- Every step keeps the laws of the windows and phases (R91, R77, R79, R84, R61, R65). -/
def Obligations.StepKeepsWindows : Prop :=
  ∀ s t : State, s.WindowsOk → step s = .next t → t.WindowsOk

/-- Every step keeps the route counts equal to the live routes on each feed and the ports named once (R57), and the laws
of the two timelines, each by itself: their next parity, their timecodes and the pairing of the two, STOPPED or RUNNING,
are those of their standard (R2, R10, R11, R17). -/
def Obligations.StepKeepsRouteCountsAndTimelines : Prop :=
  ∀ s t : State, step s = .next t →
    (s.CountsOk → t.CountsOk) ∧ ∀ u, (s.timeline u).ClockOk → (t.timeline u).ClockOk

/-- Every step keeps the laws of the feed records (R22, R26, R32). -/
def Obligations.StepKeepsFeeds : Prop :=
  ∀ s t : State, s.FeedsOk → step s = .next t → t.FeedsOk

/-- Every step keeps the curves valid, the built-in profiles as they are, a live route's profile not EMPTY, and the
settings within their bounds: trims, hold and retire limits, and map lists of at most 8 entries with no two keys equal and
families 1 to 255 (R110, R116, R117, R53, R58, R72, R74, R127), with the fields of the presets that routes are opened from
(R167). -/
def Obligations.StepKeepsProfilesAndSettings : Prop :=
  ∀ s t : State, s.ProfilesOk → step s = .next t → t.ProfilesOk

/-- Every step leaves the summary word and the line as R161 gives them, the fault word set exactly in FAULT, and the CU in
LOADING exactly while a load is running (R161, R154, R163). -/
def Obligations.StepKeepsSummaryAndCommandUnit : Prop :=
  ∀ s t : State, step s = .next t → (s.SummaryOk → t.SummaryOk) ∧ (s.CommandUnitOk → t.CommandUnitOk)

/-- Every step keeps each slot's hold and pin counts equal to the numbers of its holders and users, a READY slot's counts
not both 0, and each feed's writing slot its own (R38, R47, R48, R49). -/
def Obligations.StepKeepsSlotCounts : Prop :=
  ∀ s t : State, s.SlotsOk → step s = .next t → t.SlotsOk
end

