-- ==== Sys2Proof/Laws/State.lean ====
section
/-! SUPPORT. What each update of the state leaves as it was, and the reading of a table after an update: one lemma per
field per update. -/

namespace Sys2Proof.Machine

/-! ## Tables -/

@[simp] theorem tget_tset_self {α : Type} {n : Nat} (t : Vector α n) (i : Fin n) (a : α) :
    tget (tset t i a) i = a := by
  simp [tget, tset]

theorem tget_tset_ne {α : Type} {n : Nat} (t : Vector α n) (i j : Fin n) (a : α) (h : i ≠ j) :
    tget (tset t i a) j = tget t j := by
  have h' : i.val ≠ j.val := fun e => h (Fin.ext e)
  simp [tget, tset, h']

theorem tget_tset {α : Type} {n : Nat} (t : Vector α n) (i j : Fin n) (a : α) :
    tget (tset t i a) j = if i = j then a else tget t j := by
  by_cases h : i = j
  · subst h; simp
  · simp [h, tget_tset_ne t i j a h]

@[simp] theorem tget_map {α β : Type} {n : Nat} (f : α → β) (t : Vector α n) (i : Fin n) :
    tget (t.map f) i = f (tget t i) := by
  simp [tget]

@[simp] theorem tget_replicate {α : Type} {n : Nat} (a : α) (i : Fin n) : tget (Vector.replicate n a) i = a := by
  simp [tget]

@[simp] theorem tget_ofFn {α : Type} {n : Nat} (f : Fin n → α) (i : Fin n) : tget (Vector.ofFn f) i = f i := by
  simp [tget]

/-- Two tables with equal entries are equal. -/
theorem table_ext {α : Type} {n : Nat} (t u : Vector α n) (h : ∀ i, tget t i = tget u i) : t = u := by
  apply Vector.ext
  intro i hi
  exact h ⟨i, hi⟩

/-- Writing back what stands in a table changes nothing. -/
@[simp] theorem tset_tget {α : Type} {n : Nat} (t : Vector α n) (i : Fin n) : tset t i (tget t i) = t := by
  apply table_ext
  intro j
  rw [tget_tset]
  split
  · next h => rw [h]
  · rfl

@[simp] theorem tset_tset {α : Type} {n : Nat} (t : Vector α n) (i : Fin n) (a b : α) :
    tset (tset t i a) i b = tset t i b := by
  apply table_ext
  intro j
  simp only [tget_tset]
  split <;> rfl

/-! ## State.setFeed -/
@[simp] theorem State.setFeed_reference (s : State) (f : FeedId) (a : Feed) : (s.setFeed f a).reference = s.reference := rfl
@[simp] theorem State.setFeed_timelineA (s : State) (f : FeedId) (a : Feed) : (s.setFeed f a).timelineA = s.timelineA := rfl
@[simp] theorem State.setFeed_timelineB (s : State) (f : FeedId) (a : Feed) : (s.setFeed f a).timelineB = s.timelineB := rfl
@[simp] theorem State.setFeed_trackK (s : State) (f : FeedId) (a : Feed) : (s.setFeed f a).trackK = s.trackK := rfl
@[simp] theorem State.setFeed_feedPorts (s : State) (f : FeedId) (a : Feed) : (s.setFeed f a).feedPorts = s.feedPorts := rfl
@[simp] theorem State.setFeed_slots (s : State) (f : FeedId) (a : Feed) : (s.setFeed f a).slots = s.slots := rfl
@[simp] theorem State.setFeed_dram (s : State) (f : FeedId) (a : Feed) : (s.setFeed f a).dram = s.dram := rfl
@[simp] theorem State.setFeed_routes (s : State) (f : FeedId) (a : Feed) : (s.setFeed f a).routes = s.routes := rfl
@[simp] theorem State.setFeed_profiles (s : State) (f : FeedId) (a : Feed) : (s.setFeed f a).profiles = s.profiles := rfl
@[simp] theorem State.setFeed_ports (s : State) (f : FeedId) (a : Feed) : (s.setFeed f a).ports = s.ports := rfl
@[simp] theorem State.setFeed_monitor (s : State) (f : FeedId) (a : Feed) : (s.setFeed f a).monitor = s.monitor := rfl
@[simp] theorem State.setFeed_cu (s : State) (f : FeedId) (a : Feed) : (s.setFeed f a).cu = s.cu := rfl
@[simp] theorem State.setFeed_device (s : State) (f : FeedId) (a : Feed) : (s.setFeed f a).device = s.device := rfl
@[simp] theorem State.setFeed_loader (s : State) (f : FeedId) (a : Feed) : (s.setFeed f a).loader = s.loader := rfl
@[simp] theorem State.setFeed_presets (s : State) (f : FeedId) (a : Feed) : (s.setFeed f a).presets = s.presets := rfl
@[simp] theorem State.setFeed_pending (s : State) (f : FeedId) (a : Feed) : (s.setFeed f a).pending = s.pending := rfl

/-! ## State.setFeedPort -/
@[simp] theorem State.setFeedPort_reference (s : State) (f : FeedId) (a : FeedPort) : (s.setFeedPort f a).reference = s.reference := rfl
@[simp] theorem State.setFeedPort_timelineA (s : State) (f : FeedId) (a : FeedPort) : (s.setFeedPort f a).timelineA = s.timelineA := rfl
@[simp] theorem State.setFeedPort_timelineB (s : State) (f : FeedId) (a : FeedPort) : (s.setFeedPort f a).timelineB = s.timelineB := rfl
@[simp] theorem State.setFeedPort_trackK (s : State) (f : FeedId) (a : FeedPort) : (s.setFeedPort f a).trackK = s.trackK := rfl
@[simp] theorem State.setFeedPort_feeds (s : State) (f : FeedId) (a : FeedPort) : (s.setFeedPort f a).feeds = s.feeds := rfl
@[simp] theorem State.setFeedPort_slots (s : State) (f : FeedId) (a : FeedPort) : (s.setFeedPort f a).slots = s.slots := rfl
@[simp] theorem State.setFeedPort_dram (s : State) (f : FeedId) (a : FeedPort) : (s.setFeedPort f a).dram = s.dram := rfl
@[simp] theorem State.setFeedPort_routes (s : State) (f : FeedId) (a : FeedPort) : (s.setFeedPort f a).routes = s.routes := rfl
@[simp] theorem State.setFeedPort_profiles (s : State) (f : FeedId) (a : FeedPort) : (s.setFeedPort f a).profiles = s.profiles := rfl
@[simp] theorem State.setFeedPort_ports (s : State) (f : FeedId) (a : FeedPort) : (s.setFeedPort f a).ports = s.ports := rfl
@[simp] theorem State.setFeedPort_monitor (s : State) (f : FeedId) (a : FeedPort) : (s.setFeedPort f a).monitor = s.monitor := rfl
@[simp] theorem State.setFeedPort_cu (s : State) (f : FeedId) (a : FeedPort) : (s.setFeedPort f a).cu = s.cu := rfl
@[simp] theorem State.setFeedPort_device (s : State) (f : FeedId) (a : FeedPort) : (s.setFeedPort f a).device = s.device := rfl
@[simp] theorem State.setFeedPort_loader (s : State) (f : FeedId) (a : FeedPort) : (s.setFeedPort f a).loader = s.loader := rfl
@[simp] theorem State.setFeedPort_presets (s : State) (f : FeedId) (a : FeedPort) : (s.setFeedPort f a).presets = s.presets := rfl
@[simp] theorem State.setFeedPort_pending (s : State) (f : FeedId) (a : FeedPort) : (s.setFeedPort f a).pending = s.pending := rfl

/-! ## State.setRoute -/
@[simp] theorem State.setRoute_reference (s : State) (i : RouteId) (r : Route) : (s.setRoute i r).reference = s.reference := rfl
@[simp] theorem State.setRoute_timelineA (s : State) (i : RouteId) (r : Route) : (s.setRoute i r).timelineA = s.timelineA := rfl
@[simp] theorem State.setRoute_timelineB (s : State) (i : RouteId) (r : Route) : (s.setRoute i r).timelineB = s.timelineB := rfl
@[simp] theorem State.setRoute_trackK (s : State) (i : RouteId) (r : Route) : (s.setRoute i r).trackK = s.trackK := rfl
@[simp] theorem State.setRoute_feeds (s : State) (i : RouteId) (r : Route) : (s.setRoute i r).feeds = s.feeds := rfl
@[simp] theorem State.setRoute_feedPorts (s : State) (i : RouteId) (r : Route) : (s.setRoute i r).feedPorts = s.feedPorts := rfl
@[simp] theorem State.setRoute_slots (s : State) (i : RouteId) (r : Route) : (s.setRoute i r).slots = s.slots := rfl
@[simp] theorem State.setRoute_dram (s : State) (i : RouteId) (r : Route) : (s.setRoute i r).dram = s.dram := rfl
@[simp] theorem State.setRoute_profiles (s : State) (i : RouteId) (r : Route) : (s.setRoute i r).profiles = s.profiles := rfl
@[simp] theorem State.setRoute_ports (s : State) (i : RouteId) (r : Route) : (s.setRoute i r).ports = s.ports := rfl
@[simp] theorem State.setRoute_monitor (s : State) (i : RouteId) (r : Route) : (s.setRoute i r).monitor = s.monitor := rfl
@[simp] theorem State.setRoute_cu (s : State) (i : RouteId) (r : Route) : (s.setRoute i r).cu = s.cu := rfl
@[simp] theorem State.setRoute_device (s : State) (i : RouteId) (r : Route) : (s.setRoute i r).device = s.device := rfl
@[simp] theorem State.setRoute_loader (s : State) (i : RouteId) (r : Route) : (s.setRoute i r).loader = s.loader := rfl
@[simp] theorem State.setRoute_presets (s : State) (i : RouteId) (r : Route) : (s.setRoute i r).presets = s.presets := rfl
@[simp] theorem State.setRoute_pending (s : State) (i : RouteId) (r : Route) : (s.setRoute i r).pending = s.pending := rfl

/-! ## State.setPort -/
@[simp] theorem State.setPort_reference (s : State) (p : PortId) (a : Port) : (s.setPort p a).reference = s.reference := rfl
@[simp] theorem State.setPort_timelineA (s : State) (p : PortId) (a : Port) : (s.setPort p a).timelineA = s.timelineA := rfl
@[simp] theorem State.setPort_timelineB (s : State) (p : PortId) (a : Port) : (s.setPort p a).timelineB = s.timelineB := rfl
@[simp] theorem State.setPort_trackK (s : State) (p : PortId) (a : Port) : (s.setPort p a).trackK = s.trackK := rfl
@[simp] theorem State.setPort_feeds (s : State) (p : PortId) (a : Port) : (s.setPort p a).feeds = s.feeds := rfl
@[simp] theorem State.setPort_feedPorts (s : State) (p : PortId) (a : Port) : (s.setPort p a).feedPorts = s.feedPorts := rfl
@[simp] theorem State.setPort_slots (s : State) (p : PortId) (a : Port) : (s.setPort p a).slots = s.slots := rfl
@[simp] theorem State.setPort_dram (s : State) (p : PortId) (a : Port) : (s.setPort p a).dram = s.dram := rfl
@[simp] theorem State.setPort_routes (s : State) (p : PortId) (a : Port) : (s.setPort p a).routes = s.routes := rfl
@[simp] theorem State.setPort_profiles (s : State) (p : PortId) (a : Port) : (s.setPort p a).profiles = s.profiles := rfl
@[simp] theorem State.setPort_monitor (s : State) (p : PortId) (a : Port) : (s.setPort p a).monitor = s.monitor := rfl
@[simp] theorem State.setPort_cu (s : State) (p : PortId) (a : Port) : (s.setPort p a).cu = s.cu := rfl
@[simp] theorem State.setPort_device (s : State) (p : PortId) (a : Port) : (s.setPort p a).device = s.device := rfl
@[simp] theorem State.setPort_loader (s : State) (p : PortId) (a : Port) : (s.setPort p a).loader = s.loader := rfl
@[simp] theorem State.setPort_presets (s : State) (p : PortId) (a : Port) : (s.setPort p a).presets = s.presets := rfl
@[simp] theorem State.setPort_pending (s : State) (p : PortId) (a : Port) : (s.setPort p a).pending = s.pending := rfl

/-! ## State.setTimeline -/
@[simp] theorem State.setTimeline_reference (s : State) (t : TimelineId) (tl : Timeline) : (s.setTimeline t tl).reference = s.reference := by cases t <;> rfl
@[simp] theorem State.setTimeline_trackK (s : State) (t : TimelineId) (tl : Timeline) : (s.setTimeline t tl).trackK = s.trackK := by cases t <;> rfl
@[simp] theorem State.setTimeline_feeds (s : State) (t : TimelineId) (tl : Timeline) : (s.setTimeline t tl).feeds = s.feeds := by cases t <;> rfl
@[simp] theorem State.setTimeline_feedPorts (s : State) (t : TimelineId) (tl : Timeline) : (s.setTimeline t tl).feedPorts = s.feedPorts := by cases t <;> rfl
@[simp] theorem State.setTimeline_slots (s : State) (t : TimelineId) (tl : Timeline) : (s.setTimeline t tl).slots = s.slots := by cases t <;> rfl
@[simp] theorem State.setTimeline_dram (s : State) (t : TimelineId) (tl : Timeline) : (s.setTimeline t tl).dram = s.dram := by cases t <;> rfl
@[simp] theorem State.setTimeline_routes (s : State) (t : TimelineId) (tl : Timeline) : (s.setTimeline t tl).routes = s.routes := by cases t <;> rfl
@[simp] theorem State.setTimeline_profiles (s : State) (t : TimelineId) (tl : Timeline) : (s.setTimeline t tl).profiles = s.profiles := by cases t <;> rfl
@[simp] theorem State.setTimeline_ports (s : State) (t : TimelineId) (tl : Timeline) : (s.setTimeline t tl).ports = s.ports := by cases t <;> rfl
@[simp] theorem State.setTimeline_monitor (s : State) (t : TimelineId) (tl : Timeline) : (s.setTimeline t tl).monitor = s.monitor := by cases t <;> rfl
@[simp] theorem State.setTimeline_cu (s : State) (t : TimelineId) (tl : Timeline) : (s.setTimeline t tl).cu = s.cu := by cases t <;> rfl
@[simp] theorem State.setTimeline_device (s : State) (t : TimelineId) (tl : Timeline) : (s.setTimeline t tl).device = s.device := by cases t <;> rfl
@[simp] theorem State.setTimeline_loader (s : State) (t : TimelineId) (tl : Timeline) : (s.setTimeline t tl).loader = s.loader := by cases t <;> rfl
@[simp] theorem State.setTimeline_presets (s : State) (t : TimelineId) (tl : Timeline) : (s.setTimeline t tl).presets = s.presets := by cases t <;> rfl
@[simp] theorem State.setTimeline_pending (s : State) (t : TimelineId) (tl : Timeline) : (s.setTimeline t tl).pending = s.pending := by cases t <;> rfl

/-! ## Timeline.withStandard -/

@[simp] theorem Timeline.withStandard_state (tl : Timeline) (st : Standard) :
    (tl.withStandard st).state = tl.state := rfl
@[simp] theorem Timeline.withStandard_standard (tl : Timeline) (st : Standard) :
    (tl.withStandard st).standard = st := rfl
@[simp] theorem Timeline.withStandard_nextBoundary (tl : Timeline) (st : Standard) :
    (tl.withStandard st).nextBoundary = tl.nextBoundary := rfl
@[simp] theorem Timeline.withStandard_counter (tl : Timeline) (st : Standard) :
    (tl.withStandard st).counter = tl.counter := rfl
@[simp] theorem Timeline.withStandard_nextParity (tl : Timeline) (st : Standard) :
    (tl.withStandard st).nextParity = st.firstParity := rfl
@[simp] theorem Timeline.withStandard_nextTimecode (tl : Timeline) (st : Standard) :
    (tl.withStandard st).nextTimecode = zeroTimecode st.drop := rfl
@[simp] theorem Timeline.withStandard_currentTimecode (tl : Timeline) (st : Standard) :
    (tl.withStandard st).currentTimecode = none := rfl

/-! ## State.notify -/
@[simp] theorem State.notify_reference (s : State)  : (s.notify).reference = s.reference := rfl
@[simp] theorem State.notify_timelineA (s : State)  : (s.notify).timelineA = s.timelineA := rfl
@[simp] theorem State.notify_timelineB (s : State)  : (s.notify).timelineB = s.timelineB := rfl
@[simp] theorem State.notify_trackK (s : State)  : (s.notify).trackK = s.trackK := rfl
@[simp] theorem State.notify_feeds (s : State)  : (s.notify).feeds = s.feeds := rfl
@[simp] theorem State.notify_feedPorts (s : State)  : (s.notify).feedPorts = s.feedPorts := rfl
@[simp] theorem State.notify_slots (s : State)  : (s.notify).slots = s.slots := rfl
@[simp] theorem State.notify_dram (s : State)  : (s.notify).dram = s.dram := rfl
@[simp] theorem State.notify_routes (s : State)  : (s.notify).routes = s.routes := rfl
@[simp] theorem State.notify_profiles (s : State)  : (s.notify).profiles = s.profiles := rfl
@[simp] theorem State.notify_ports (s : State)  : (s.notify).ports = s.ports := rfl
@[simp] theorem State.notify_monitor (s : State)  : (s.notify).monitor = s.monitor := rfl
@[simp] theorem State.notify_cu (s : State)  : (s.notify).cu = s.cu := rfl
@[simp] theorem State.notify_loader (s : State)  : (s.notify).loader = s.loader := rfl
@[simp] theorem State.notify_presets (s : State)  : (s.notify).presets = s.presets := rfl
@[simp] theorem State.notify_pending (s : State)  : (s.notify).pending = s.pending := rfl

/-! ## State.setReference -/
@[simp] theorem State.setReference_timelineA (s : State) (r : Reference) : (s.setReference r).timelineA = s.timelineA := rfl
@[simp] theorem State.setReference_timelineB (s : State) (r : Reference) : (s.setReference r).timelineB = s.timelineB := rfl
@[simp] theorem State.setReference_trackK (s : State) (r : Reference) : (s.setReference r).trackK = s.trackK := rfl
@[simp] theorem State.setReference_feeds (s : State) (r : Reference) : (s.setReference r).feeds = s.feeds := rfl
@[simp] theorem State.setReference_feedPorts (s : State) (r : Reference) : (s.setReference r).feedPorts = s.feedPorts := rfl
@[simp] theorem State.setReference_slots (s : State) (r : Reference) : (s.setReference r).slots = s.slots := rfl
@[simp] theorem State.setReference_dram (s : State) (r : Reference) : (s.setReference r).dram = s.dram := rfl
@[simp] theorem State.setReference_routes (s : State) (r : Reference) : (s.setReference r).routes = s.routes := rfl
@[simp] theorem State.setReference_profiles (s : State) (r : Reference) : (s.setReference r).profiles = s.profiles := rfl
@[simp] theorem State.setReference_ports (s : State) (r : Reference) : (s.setReference r).ports = s.ports := rfl
@[simp] theorem State.setReference_monitor (s : State) (r : Reference) : (s.setReference r).monitor = s.monitor := rfl
@[simp] theorem State.setReference_cu (s : State) (r : Reference) : (s.setReference r).cu = s.cu := rfl
@[simp] theorem State.setReference_loader (s : State) (r : Reference) : (s.setReference r).loader = s.loader := rfl
@[simp] theorem State.setReference_presets (s : State) (r : Reference) : (s.setReference r).presets = s.presets := rfl
@[simp] theorem State.setReference_pending (s : State) (r : Reference) : (s.setReference r).pending = s.pending := rfl

/-! ## State.evaluate -/
@[simp] theorem State.evaluate_reference (s : State)  : (s.evaluate).reference = s.reference := rfl
@[simp] theorem State.evaluate_timelineA (s : State)  : (s.evaluate).timelineA = s.timelineA := rfl
@[simp] theorem State.evaluate_timelineB (s : State)  : (s.evaluate).timelineB = s.timelineB := rfl
@[simp] theorem State.evaluate_trackK (s : State)  : (s.evaluate).trackK = s.trackK := rfl
@[simp] theorem State.evaluate_feeds (s : State)  : (s.evaluate).feeds = s.feeds := rfl
@[simp] theorem State.evaluate_feedPorts (s : State)  : (s.evaluate).feedPorts = s.feedPorts := rfl
@[simp] theorem State.evaluate_slots (s : State)  : (s.evaluate).slots = s.slots := rfl
@[simp] theorem State.evaluate_dram (s : State)  : (s.evaluate).dram = s.dram := rfl
@[simp] theorem State.evaluate_routes (s : State)  : (s.evaluate).routes = s.routes := rfl
@[simp] theorem State.evaluate_profiles (s : State)  : (s.evaluate).profiles = s.profiles := rfl
@[simp] theorem State.evaluate_ports (s : State)  : (s.evaluate).ports = s.ports := rfl
@[simp] theorem State.evaluate_monitor (s : State)  : (s.evaluate).monitor = s.monitor := rfl
@[simp] theorem State.evaluate_loader (s : State)  : (s.evaluate).loader = s.loader := rfl
@[simp] theorem State.evaluate_presets (s : State)  : (s.evaluate).presets = s.presets := rfl
@[simp] theorem State.evaluate_pending (s : State)  : (s.evaluate).pending = s.pending := rfl

/-! ## State.evaluateUnlessStopped -/
@[simp] theorem State.evaluateUnlessStopped_reference (s : State)  : (s.evaluateUnlessStopped).reference = s.reference := by
  unfold State.evaluateUnlessStopped; split <;> rfl
@[simp] theorem State.evaluateUnlessStopped_timelineA (s : State)  : (s.evaluateUnlessStopped).timelineA = s.timelineA := by
  unfold State.evaluateUnlessStopped; split <;> rfl
@[simp] theorem State.evaluateUnlessStopped_timelineB (s : State)  : (s.evaluateUnlessStopped).timelineB = s.timelineB := by
  unfold State.evaluateUnlessStopped; split <;> rfl
@[simp] theorem State.evaluateUnlessStopped_trackK (s : State)  : (s.evaluateUnlessStopped).trackK = s.trackK := by
  unfold State.evaluateUnlessStopped; split <;> rfl
@[simp] theorem State.evaluateUnlessStopped_feeds (s : State)  : (s.evaluateUnlessStopped).feeds = s.feeds := by
  unfold State.evaluateUnlessStopped; split <;> rfl
@[simp] theorem State.evaluateUnlessStopped_feedPorts (s : State)  : (s.evaluateUnlessStopped).feedPorts = s.feedPorts := by
  unfold State.evaluateUnlessStopped; split <;> rfl
@[simp] theorem State.evaluateUnlessStopped_slots (s : State)  : (s.evaluateUnlessStopped).slots = s.slots := by
  unfold State.evaluateUnlessStopped; split <;> rfl
@[simp] theorem State.evaluateUnlessStopped_dram (s : State)  : (s.evaluateUnlessStopped).dram = s.dram := by
  unfold State.evaluateUnlessStopped; split <;> rfl
@[simp] theorem State.evaluateUnlessStopped_routes (s : State)  : (s.evaluateUnlessStopped).routes = s.routes := by
  unfold State.evaluateUnlessStopped; split <;> rfl
@[simp] theorem State.evaluateUnlessStopped_profiles (s : State)  : (s.evaluateUnlessStopped).profiles = s.profiles := by
  unfold State.evaluateUnlessStopped; split <;> rfl
@[simp] theorem State.evaluateUnlessStopped_ports (s : State)  : (s.evaluateUnlessStopped).ports = s.ports := by
  unfold State.evaluateUnlessStopped; split <;> rfl
@[simp] theorem State.evaluateUnlessStopped_monitor (s : State)  : (s.evaluateUnlessStopped).monitor = s.monitor := by
  unfold State.evaluateUnlessStopped; split <;> rfl
@[simp] theorem State.evaluateUnlessStopped_loader (s : State)  : (s.evaluateUnlessStopped).loader = s.loader := by
  unfold State.evaluateUnlessStopped; split <;> rfl
@[simp] theorem State.evaluateUnlessStopped_presets (s : State)  : (s.evaluateUnlessStopped).presets = s.presets := by
  unfold State.evaluateUnlessStopped; split <;> rfl
@[simp] theorem State.evaluateUnlessStopped_pending (s : State)  : (s.evaluateUnlessStopped).pending = s.pending := by
  unfold State.evaluateUnlessStopped; split <;> rfl

/-! ## State.finishTake -/
@[simp] theorem State.finishTake_reference (s : State) (c : Command) (r : Reply) : (s.finishTake c r).reference = s.reference := rfl
@[simp] theorem State.finishTake_timelineA (s : State) (c : Command) (r : Reply) : (s.finishTake c r).timelineA = s.timelineA := rfl
@[simp] theorem State.finishTake_timelineB (s : State) (c : Command) (r : Reply) : (s.finishTake c r).timelineB = s.timelineB := rfl
@[simp] theorem State.finishTake_trackK (s : State) (c : Command) (r : Reply) : (s.finishTake c r).trackK = s.trackK := rfl
@[simp] theorem State.finishTake_feeds (s : State) (c : Command) (r : Reply) : (s.finishTake c r).feeds = s.feeds := rfl
@[simp] theorem State.finishTake_feedPorts (s : State) (c : Command) (r : Reply) : (s.finishTake c r).feedPorts = s.feedPorts := rfl
@[simp] theorem State.finishTake_slots (s : State) (c : Command) (r : Reply) : (s.finishTake c r).slots = s.slots := rfl
@[simp] theorem State.finishTake_dram (s : State) (c : Command) (r : Reply) : (s.finishTake c r).dram = s.dram := rfl
@[simp] theorem State.finishTake_routes (s : State) (c : Command) (r : Reply) : (s.finishTake c r).routes = s.routes := rfl
@[simp] theorem State.finishTake_profiles (s : State) (c : Command) (r : Reply) : (s.finishTake c r).profiles = s.profiles := rfl
@[simp] theorem State.finishTake_ports (s : State) (c : Command) (r : Reply) : (s.finishTake c r).ports = s.ports := rfl
@[simp] theorem State.finishTake_monitor (s : State) (c : Command) (r : Reply) : (s.finishTake c r).monitor = s.monitor := rfl
@[simp] theorem State.finishTake_loader (s : State) (c : Command) (r : Reply) : (s.finishTake c r).loader = s.loader := rfl
@[simp] theorem State.finishTake_presets (s : State) (c : Command) (r : Reply) : (s.finishTake c r).presets = s.presets := rfl
@[simp] theorem State.finishTake_pending (s : State) (c : Command) (r : Reply) : (s.finishTake c r).pending = s.pending := rfl

/-! ## State.overRoutes -/
@[simp] theorem State.overRoutes_reference (s : State) (g : RouteId → Route → SlotTable → Route × SlotTable) : (s.overRoutes g).reference = s.reference := by
  simp only [State.overRoutes]
@[simp] theorem State.overRoutes_timelineA (s : State) (g : RouteId → Route → SlotTable → Route × SlotTable) : (s.overRoutes g).timelineA = s.timelineA := by
  simp only [State.overRoutes]
@[simp] theorem State.overRoutes_timelineB (s : State) (g : RouteId → Route → SlotTable → Route × SlotTable) : (s.overRoutes g).timelineB = s.timelineB := by
  simp only [State.overRoutes]
@[simp] theorem State.overRoutes_trackK (s : State) (g : RouteId → Route → SlotTable → Route × SlotTable) : (s.overRoutes g).trackK = s.trackK := by
  simp only [State.overRoutes]
@[simp] theorem State.overRoutes_feeds (s : State) (g : RouteId → Route → SlotTable → Route × SlotTable) : (s.overRoutes g).feeds = s.feeds := by
  simp only [State.overRoutes]
@[simp] theorem State.overRoutes_feedPorts (s : State) (g : RouteId → Route → SlotTable → Route × SlotTable) : (s.overRoutes g).feedPorts = s.feedPorts := by
  simp only [State.overRoutes]
@[simp] theorem State.overRoutes_dram (s : State) (g : RouteId → Route → SlotTable → Route × SlotTable) : (s.overRoutes g).dram = s.dram := by
  simp only [State.overRoutes]
@[simp] theorem State.overRoutes_profiles (s : State) (g : RouteId → Route → SlotTable → Route × SlotTable) : (s.overRoutes g).profiles = s.profiles := by
  simp only [State.overRoutes]
@[simp] theorem State.overRoutes_ports (s : State) (g : RouteId → Route → SlotTable → Route × SlotTable) : (s.overRoutes g).ports = s.ports := by
  simp only [State.overRoutes]
@[simp] theorem State.overRoutes_monitor (s : State) (g : RouteId → Route → SlotTable → Route × SlotTable) : (s.overRoutes g).monitor = s.monitor := by
  simp only [State.overRoutes]
@[simp] theorem State.overRoutes_cu (s : State) (g : RouteId → Route → SlotTable → Route × SlotTable) : (s.overRoutes g).cu = s.cu := by
  simp only [State.overRoutes]
@[simp] theorem State.overRoutes_device (s : State) (g : RouteId → Route → SlotTable → Route × SlotTable) : (s.overRoutes g).device = s.device := by
  simp only [State.overRoutes]
@[simp] theorem State.overRoutes_loader (s : State) (g : RouteId → Route → SlotTable → Route × SlotTable) : (s.overRoutes g).loader = s.loader := by
  simp only [State.overRoutes]
@[simp] theorem State.overRoutes_presets (s : State) (g : RouteId → Route → SlotTable → Route × SlotTable) : (s.overRoutes g).presets = s.presets := by
  simp only [State.overRoutes]
@[simp] theorem State.overRoutes_pending (s : State) (g : RouteId → Route → SlotTable → Route × SlotTable) : (s.overRoutes g).pending = s.pending := by
  simp only [State.overRoutes]

/-! ## State.feedChanged -/
@[simp] theorem State.feedChanged_reference (s : State) (f : FeedId) (old new : FeedState) : (s.feedChanged f old new).reference = s.reference := by
  unfold State.feedChanged; repeat' split
  all_goals simp
@[simp] theorem State.feedChanged_timelineA (s : State) (f : FeedId) (old new : FeedState) : (s.feedChanged f old new).timelineA = s.timelineA := by
  unfold State.feedChanged; repeat' split
  all_goals simp
@[simp] theorem State.feedChanged_timelineB (s : State) (f : FeedId) (old new : FeedState) : (s.feedChanged f old new).timelineB = s.timelineB := by
  unfold State.feedChanged; repeat' split
  all_goals simp
@[simp] theorem State.feedChanged_trackK (s : State) (f : FeedId) (old new : FeedState) : (s.feedChanged f old new).trackK = s.trackK := by
  unfold State.feedChanged; repeat' split
  all_goals simp
@[simp] theorem State.feedChanged_feeds (s : State) (f : FeedId) (old new : FeedState) : (s.feedChanged f old new).feeds = s.feeds := by
  unfold State.feedChanged; repeat' split
  all_goals simp
@[simp] theorem State.feedChanged_feedPorts (s : State) (f : FeedId) (old new : FeedState) : (s.feedChanged f old new).feedPorts = s.feedPorts := by
  unfold State.feedChanged; repeat' split
  all_goals simp
@[simp] theorem State.feedChanged_dram (s : State) (f : FeedId) (old new : FeedState) : (s.feedChanged f old new).dram = s.dram := by
  unfold State.feedChanged; repeat' split
  all_goals simp
@[simp] theorem State.feedChanged_profiles (s : State) (f : FeedId) (old new : FeedState) : (s.feedChanged f old new).profiles = s.profiles := by
  unfold State.feedChanged; repeat' split
  all_goals simp
@[simp] theorem State.feedChanged_ports (s : State) (f : FeedId) (old new : FeedState) : (s.feedChanged f old new).ports = s.ports := by
  unfold State.feedChanged; repeat' split
  all_goals simp
@[simp] theorem State.feedChanged_monitor (s : State) (f : FeedId) (old new : FeedState) : (s.feedChanged f old new).monitor = s.monitor := by
  unfold State.feedChanged; repeat' split
  all_goals simp
@[simp] theorem State.feedChanged_cu (s : State) (f : FeedId) (old new : FeedState) : (s.feedChanged f old new).cu = s.cu := by
  unfold State.feedChanged; repeat' split
  all_goals simp
@[simp] theorem State.feedChanged_device (s : State) (f : FeedId) (old new : FeedState) : (s.feedChanged f old new).device = s.device := by
  unfold State.feedChanged; repeat' split
  all_goals simp
@[simp] theorem State.feedChanged_loader (s : State) (f : FeedId) (old new : FeedState) : (s.feedChanged f old new).loader = s.loader := by
  unfold State.feedChanged; repeat' split
  all_goals simp
@[simp] theorem State.feedChanged_presets (s : State) (f : FeedId) (old new : FeedState) : (s.feedChanged f old new).presets = s.presets := by
  unfold State.feedChanged; repeat' split
  all_goals simp
@[simp] theorem State.feedChanged_pending (s : State) (f : FeedId) (old new : FeedState) : (s.feedChanged f old new).pending = s.pending := by
  unfold State.feedChanged; repeat' split
  all_goals simp

/-! ## Records after an update -/

@[simp] theorem State.setFeed_feed_self (s : State) (f : FeedId) (a : Feed) : (s.setFeed f a).feed f = a := by
  simp [State.feed, State.setFeed]

theorem State.setFeed_feed (s : State) (f g : FeedId) (a : Feed) :
    (s.setFeed f a).feed g = if f = g then a else s.feed g := by
  simp [State.feed, State.setFeed, tget_tset]

@[simp] theorem State.setRoute_route_self (s : State) (i : RouteId) (r : Route) : (s.setRoute i r).route i = r := by
  simp [State.route, State.setRoute]

theorem State.setRoute_route (s : State) (i j : RouteId) (r : Route) :
    (s.setRoute i r).route j = if i = j then r else s.route j := by
  simp [State.route, State.setRoute, tget_tset]

@[simp] theorem State.setPort_port_self (s : State) (p : PortId) (a : Port) : (s.setPort p a).port p = a := by
  simp [State.port, State.setPort]

theorem State.setPort_port (s : State) (p q : PortId) (a : Port) :
    (s.setPort p a).port q = if p = q then a else s.port q := by
  simp [State.port, State.setPort, tget_tset]

@[simp] theorem State.setFeedPort_feedPort_self (s : State) (f : FeedId) (a : FeedPort) :
    (s.setFeedPort f a).feedPort f = a := by
  simp [State.feedPort, State.setFeedPort]

theorem State.setFeedPort_feedPort (s : State) (f g : FeedId) (a : FeedPort) :
    (s.setFeedPort f a).feedPort g = if f = g then a else s.feedPort g := by
  simp [State.feedPort, State.setFeedPort, tget_tset]

@[simp] theorem State.setTimeline_timeline_self (s : State) (t : TimelineId) (tl : Timeline) :
    (s.setTimeline t tl).timeline t = tl := by
  cases t <;> rfl

theorem State.setTimeline_timeline_ne (s : State) (t u : TimelineId) (tl : Timeline) (h : t ≠ u) :
    (s.setTimeline t tl).timeline u = s.timeline u := by
  cases t <;> cases u <;> first | rfl | exact absurd rfl h

/-! ## The device scope -/

@[simp] theorem State.notify_events (s : State) : s.notify.device.events = s.device.events := rfl
@[simp] theorem State.notify_retired (s : State) : s.notify.device.retired = s.device.retired := rfl
@[simp] theorem State.notify_routeMask (s : State) : s.notify.device.routeMask = s.device.routeMask := rfl
@[simp] theorem State.notify_feedMask (s : State) : s.notify.device.feedMask = s.device.feedMask := rfl
@[simp] theorem State.notify_deviceMask (s : State) : s.notify.device.deviceMask = s.device.deviceMask := rfl
@[simp] theorem State.notify_enable (s : State) : s.notify.device.enable = s.device.enable := rfl

/-- The summary word reads the pending sets and the masks alone. -/
theorem summaryWord_congr (routes : RouteTable) (feeds : Vector Feed 8) (d e : Device) (h1 : d.events = e.events)
    (h2 : d.routeMask = e.routeMask) (h3 : d.feedMask = e.feedMask) (h4 : d.deviceMask = e.deviceMask) :
    summaryWord routes feeds d = summaryWord routes feeds e := by
  simp [summaryWord, summaryBits, h1, h2, h3, h4]

/-- After a recomputation the summary word and the line are those of R161. -/
theorem State.notify_summaryOk (s : State) : s.notify.SummaryOk :=
  ⟨summaryWord_congr _ _ _ _ rfl rfl rfl rfl, rfl⟩

/-- Where the summary word and the line already follow the pending sets, a recomputation changes nothing. -/
theorem State.notify_eq_self (s : State) (h : s.SummaryOk) : s.notify = s := by
  obtain ⟨h1, h2⟩ := h
  simp only [State.notify]
  rw [← h1, ← h2]

end Sys2Proof.Machine
end

