-- ==== Sys2Proof/Laws/Rings.lean ====
section
/-! SUPPORT. The command and reply rings: what a take does once for every kind of command (R151, R152), what a write
into the reply ring does, and which fields each command's effect can change. -/

namespace Sys2Proof.Machine

/-! ## Writing the reply (R152) -/

/-- A run of at most 512 words written into the reply ring stands where it was written. -/
theorem writeReply_inside (ring : Vector Word 512) (index : Fin 512) (ws : List Word) (n : Nat) (h : n < ws.length)
    (hl : ws.length ≤ 512) : tget (writeReply ring index ws) (index + Fin.ofNat 512 n) = ws[n] := by
  induction ws generalizing ring index n with
  | nil => exact absurd h (by simp)
  | cons w ws ih =>
    cases n with
    | zero =>
      have hout : ∀ (l : List Word) (r : Vector Word 512) (j : Fin 512), l.length ≤ 511 →
          tget (writeReply r (j + 1) l) j = tget r j := by
        intro l
        have gen : ∀ (l : List Word) (r : Vector Word 512) (j : Fin 512) (m : Nat), 1 ≤ m → m + l.length ≤ 512 →
            tget (writeReply r (j + Fin.ofNat 512 m) l) j = tget r j := by
          intro l
          induction l with
          | nil => intro r j m _ _; rfl
          | cons x xs ihx =>
            intro r j m h1 h2
            simp only [List.length_cons] at h2
            simp only [writeReply]
            have hs : j + Fin.ofNat 512 m + 1 = j + Fin.ofNat 512 (m + 1) := by
              apply Fin.ext
              simp only [Fin.val_add, Fin.val_ofNat, Fin.val_one]
              omega
            rw [hs, ihx _ _ (m + 1) (by omega) (by omega), tget_tset_ne]
            intro he
            have := congrArg Fin.val he
            simp only [Fin.val_add, Fin.val_ofNat] at this
            omega
        intro r j hl
        exact gen l r j 1 (Nat.le_refl 1) (by omega)
      have := hout ws (tset ring index w) index (by simp only [List.length_cons] at hl; omega)
      simpa [writeReply] using this
    | succ n =>
      have hs : index + Fin.ofNat 512 (n + 1) = index + 1 + Fin.ofNat 512 n := by
        apply Fin.ext
        simp only [Fin.val_add, Fin.val_ofNat, Fin.val_one]
        omega
      rw [hs]
      have := ih (tset ring index w) (index + 1) n (by simpa using h) (by simp only [List.length_cons] at hl; omega)
      simpa [writeReply] using this

/-- The words of the reply ring outside a written run are as they were. -/
theorem writeReply_outside (ring : Vector Word 512) (index : Fin 512) (ws : List Word) (n : Nat) (h : ws.length ≤ n)
    (hn : n < 512) : tget (writeReply ring index ws) (index + Fin.ofNat 512 n) = tget ring (index + Fin.ofNat 512 n) := by
  induction ws generalizing ring index n with
  | nil => rfl
  | cons w ws ih =>
    simp only [List.length_cons] at h
    have hs : index + Fin.ofNat 512 n = index + 1 + Fin.ofNat 512 (n - 1) := by
      apply Fin.ext
      simp only [Fin.val_add, Fin.val_ofNat, Fin.val_one]
      omega
    simp only [writeReply]
    rw [hs, ih (tset ring index w) (index + 1) (n - 1) (by omega) (by omega), tget_tset_ne]
    intro he
    have := congrArg Fin.val he
    simp only [Fin.val_add, Fin.val_ofNat, Fin.val_one] at this
    omega

/-! ## Taking a command (R151, R152) -/

/-- A due command is the one an evaluation of the ring finds. -/
theorem State.dueCommand_eq (s : State) (c : Command) (h : s.dueCommand = some c) :
    s.cu.state = .takeDue ∧ s.cu.judge = .due c := by
  unfold State.dueCommand at h
  split at h
  · next hs =>
    refine ⟨hs, ?_⟩
    split at h <;> first | (cases h; assumption) | cases h
  · cases h

/-- The taking of a command of the kind that is due: its owner's effect, then the reply. -/
theorem take_due (k : CmdKind) (effect : List Word → State → State × Reply) (s : State) (c : Command)
    (h : s.dueCommand = some c) (hk : c.kind = k) :
    take k effect s = (effect c.args s).1.finishTake c (effect c.args s).2 := by
  simp [take, h, hk]

/-- Without a due command of the kind, a take changes nothing. -/
theorem take_not_due (k : CmdKind) (effect : List Word → State → State × Reply) (s : State)
    (h : ∀ c, s.dueCommand = some c → c.kind ≠ k) : take k effect s = s := by
  unfold take
  split
  · next c hc => exact if_neg (h c hc)
  · rfl

/-- Everything that stands after a take: the effect's state but for the Command Unit and the device scope, and those as
`Taken` says. -/
theorem State.finishTake_spec (s u : State) (c : Command) (r : Reply) (h : u.cu = s.cu) :
    u.finishTake c r = { u with cu := (u.finishTake c r).cu, device := (u.finishTake c r).device } ∧
    Taken s (u.finishTake c r) u.device c r := by
  refine ⟨rfl, ?_, ?_, ?_, ?_, ?_, ?_, ?_, State.notify_summaryOk _⟩
  · rw [← h]; rfl
  · rw [← h]
    show ((u.cu.reply c r).judge.raises u.notify.device).events = _
    cases (u.cu.reply c r).judge <;> rfl
  all_goals
    first
    | (show ((u.cu.reply c r).judge.raises u.notify.device).retired = _
       cases (u.cu.reply c r).judge <;> rfl)
    | (show ((u.cu.reply c r).judge.raises u.notify.device).routeMask = _
       cases (u.cu.reply c r).judge <;> rfl)
    | (show ((u.cu.reply c r).judge.raises u.notify.device).feedMask = _
       cases (u.cu.reply c r).judge <;> rfl)
    | (show ((u.cu.reply c r).judge.raises u.notify.device).deviceMask = _
       cases (u.cu.reply c r).judge <;> rfl)
    | (show ((u.cu.reply c r).judge.raises u.notify.device).enable = _
       cases (u.cu.reply c r).judge <;> rfl)

/-! ## What each command's effect can change -/

theorem withHandle_fst (args : List Word) (s : State) (k : RouteId → State × Reply) (P : State → Prop) (hs : P s)
    (hk : ∀ i, P (k i).1) : P (withHandle args s k).1 := by
  unfold withHandle
  split
  · exact hk _
  · exact hs

theorem tryOpen_only (q : OpenRequest) (s : State) :
    (tryOpen q s).1 = { s with routes := (tryOpen q s).1.routes, feeds := (tryOpen q s).1.feeds } := by
  unfold tryOpen
  split <;> rfl

theorem routeOpen_only (args : List Word) (s : State) :
    (routeOpen args s).1 = { s with routes := (routeOpen args s).1.routes, feeds := (routeOpen args s).1.feeds } :=
  tryOpen_only _ _

theorem presetOpen_only (args : List Word) (s : State) :
    (presetOpen args s).1 = { s with routes := (presetOpen args s).1.routes, feeds := (presetOpen args s).1.feeds } := by
  unfold presetOpen
  dsimp only
  split
  · rfl
  · split
    · rfl
    · exact tryOpen_only _ _

theorem routeAlter_only (args : List Word) (s : State) :
    (routeAlter args s).1 = { s with routes := (routeAlter args s).1.routes } := by
  apply withHandle_fst args s _ (fun t => t = { s with routes := t.routes }) rfl
  intro i
  dsimp only
  split <;> rfl

theorem routeTrim_only (args : List Word) (s : State) :
    (routeTrim args s).1 = { s with routes := (routeTrim args s).1.routes } := by
  apply withHandle_fst args s _ (fun t => t = { s with routes := t.routes }) rfl
  intro i
  dsimp only
  split <;> rfl

theorem routeHold_only (args : List Word) (s : State) :
    (routeHold args s).1 = { s with routes := (routeHold args s).1.routes } :=
  withHandle_fst args s _ (fun t => t = { s with routes := t.routes }) rfl (fun _ => rfl)

theorem routeRelease_only (args : List Word) (s : State) :
    (routeRelease args s).1 = { s with routes := (routeRelease args s).1.routes, slots := (routeRelease args s).1.slots } :=
  withHandle_fst args s _ (fun t => t = { s with routes := t.routes, slots := t.slots }) rfl (fun _ => rfl)

theorem routeClose_only (args : List Word) (s : State) :
    (routeClose args s).1 =
      { s with
        routes := (routeClose args s).1.routes
        slots := (routeClose args s).1.slots
        feeds := (routeClose args s).1.feeds } :=
  withHandle_fst args s _ (fun t => t = { s with routes := t.routes, slots := t.slots, feeds := t.feeds }) rfl
    (fun _ => rfl)

theorem routeRead_only (args : List Word) (s : State) :
    (routeRead args s).1 = { s with routes := (routeRead args s).1.routes } := by
  apply withHandle_fst args s _ (fun t => t = { s with routes := t.routes }) rfl
  intro i
  dsimp only
  split <;> rfl

theorem checkSet_only (args : List Word) (s : State) :
    (checkSet args s).1 = { s with routes := (checkSet args s).1.routes } := by
  apply withHandle_fst args s _ (fun t => t = { s with routes := t.routes }) rfl
  intro i
  dsimp only
  split <;> rfl

theorem State.abandon_only (s : State) (f : FeedId) :
    s.abandon f = { s with feeds := (s.abandon f).feeds, slots := (s.abandon f).slots } := by
  unfold State.abandon
  split <;> rfl

theorem State.applyFeedSet_only (s : State) (q : FeedRequest) :
    s.applyFeedSet q =
      { s with
        feeds := (s.applyFeedSet q).feeds
        feedPorts := (s.applyFeedSet q).feedPorts
        slots := (s.applyFeedSet q).slots } := by
  unfold State.applyFeedSet
  dsimp only
  split
  · rfl
  · have h := State.abandon_only s q.feedId
    generalize s.abandon q.feedId = a at h ⊢
    rw [h]
    rfl

theorem tryFeedSet_only (q : FeedRequest) (s : State) :
    (tryFeedSet q s).1 =
      { s with
        feeds := (tryFeedSet q s).1.feeds
        feedPorts := (tryFeedSet q s).1.feedPorts
        slots := (tryFeedSet q s).1.slots } := by
  unfold tryFeedSet
  split
  · exact State.applyFeedSet_only s q
  · rfl

theorem feedSet_only (args : List Word) (s : State) :
    (feedSet args s).1 =
      { s with
        feeds := (feedSet args s).1.feeds
        feedPorts := (feedSet args s).1.feedPorts
        slots := (feedSet args s).1.slots } :=
  tryFeedSet_only _ _

theorem feedRead_only (args : List Word) (s : State) :
    (feedRead args s).1 = { s with feeds := (feedRead args s).1.feeds } := by
  unfold feedRead
  dsimp only
  repeat' split
  all_goals rfl

theorem trackSet_only (args : List Word) (s : State) :
    (trackSet args s).1 = { s with trackK := (trackSet args s).1.trackK } := by
  unfold trackSet
  dsimp only
  repeat' split
  all_goals rfl

theorem profileWrite_only (args : List Word) (s : State) :
    (profileWrite args s).1 = { s with profiles := (profileWrite args s).1.profiles } := by
  unfold profileWrite tryProfileWrite
  dsimp only
  split <;> rfl

theorem profileRead_only (args : List Word) (s : State) : (profileRead args s).1 = s := by
  unfold profileRead
  dsimp only
  split <;> rfl

theorem timelineSet_only (tick : Tick) (args : List Word) (s : State) :
    (timelineSet tick args s).1 =
      { s with
        timelineA := (timelineSet tick args s).1.timelineA
        timelineB := (timelineSet tick args s).1.timelineB
        ports := (timelineSet tick args s).1.ports
        routes := (timelineSet tick args s).1.routes
        monitor := (timelineSet tick args s).1.monitor } := by
  unfold timelineSet
  dsimp only
  split
  · next t st _ _ _ => cases t <;> rfl
  · rfl

theorem timelineRead_only (args : List Word) (s : State) :
    (timelineRead args s).1 = { s with reference := (timelineRead args s).1.reference } := by
  unfold timelineRead
  split <;> rfl

theorem portSet_only (args : List Word) (s : State) :
    (portSet args s).1 = { s with ports := (portSet args s).1.ports } := by
  unfold portSet
  dsimp only
  repeat' split
  all_goals rfl

theorem portMute_only (args : List Word) (s : State) :
    (portMute args s).1 = { s with ports := (portMute args s).1.ports } := by
  unfold portMute
  dsimp only
  repeat' split
  all_goals rfl

theorem referenceSet_only (args : List Word) (s : State) :
    (referenceSet args s).1 =
      { s with reference := (referenceSet args s).1.reference, device := (referenceSet args s).1.device } := rfl

theorem monitorSet_only (args : List Word) (s : State) :
    (monitorSet args s).1 = { s with monitor := (monitorSet args s).1.monitor, slots := (monitorSet args s).1.slots } := by
  unfold monitorSet
  split
  · rfl
  · dsimp only
    split <;> rfl

theorem eventsTake_only (args : List Word) (s : State) :
    (eventsTake args s).1 =
      { s with
        routes := (eventsTake args s).1.routes
        feeds := (eventsTake args s).1.feeds
        device := (eventsTake args s).1.device } := by
  unfold eventsTake
  split
  · unfold takeRouteEvents
    dsimp only
    split <;> rfl
  · unfold takeFeedEvents
    dsimp only
    split <;> rfl
  · rfl
  · rfl

theorem notifySet_only (args : List Word) (s : State) :
    (notifySet args s).1 = { s with device := (notifySet args s).1.device } := by
  unfold notifySet
  split <;> rfl

theorem deviceRead_only (args : List Word) (s : State) : (deviceRead args s).1 = s := rfl

end Sys2Proof.Machine
end

