-- ==== Sys2Proof/Laws/Events.lean ====
section
/-! SUPPORT. Which fields each event of the part can change: the frame of the commands that are not ring commands. -/

namespace Sys2Proof.Machine

/-! ## The feed ports -/

theorem State.overRoutes_only (s : State) (g : RouteId → Route → SlotTable → Route × SlotTable) :
    s.overRoutes g = { s with routes := (s.overRoutes g).routes, slots := (s.overRoutes g).slots } := by
  unfold State.overRoutes
  dsimp only

theorem State.feedChanged_only (s : State) (f : FeedId) (old new : FeedState) :
    s.feedChanged f old new =
      { s with routes := (s.feedChanged f old new).routes, slots := (s.feedChanged f old new).slots } := by
  unfold State.feedChanged
  split
  · rfl
  · split
    · exact State.overRoutes_only s _
    · split
      · exact State.overRoutes_only s _
      · rfl

theorem State.truncate_only (s : State) (f : FeedId) (st : Standard) :
    s.truncate f st = { s with feeds := (s.truncate f st).feeds, slots := (s.truncate f st).slots } := by
  unfold State.truncate
  split
  · have h := State.abandon_only s f
    generalize s.abandon f = a at h ⊢
    rw [h]
    rfl
  · rfl

theorem State.store_only (s : State) (f : FeedId) (st : Standard) (seq : BitVec 32) (parity : Parity) :
    s.store f st seq parity =
      { s with feeds := (s.store f st seq parity).feeds, slots := (s.store f st seq parity).slots } := by
  unfold State.store
  repeat' split
  all_goals rfl

theorem State.startPicture_only (s : State) (f : FeedId) (st : Standard) (tick : Tick) (parity : Parity) :
    s.startPicture f st tick parity =
      { s with
        feeds := (s.startPicture f st tick parity).feeds
        feedPorts := (s.startPicture f st tick parity).feedPorts
        slots := (s.startPicture f st tick parity).slots } := by
  unfold State.startPicture
  dsimp only
  have h := State.truncate_only s f st
  generalize s.truncate f st = a at h ⊢
  rw [h]
  rfl

/-- A picture start changes the feed's records, the Slot Table and, through the Route Manager, the routes. -/
theorem State.pictureStart_only (s : State) (f : FeedId) (tick : Tick) (bottom : Bool) :
    s.pictureStart f tick bottom =
      { s with
        feeds := (s.pictureStart f tick bottom).feeds
        feedPorts := (s.pictureStart f tick bottom).feedPorts
        slots := (s.pictureStart f tick bottom).slots
        routes := (s.pictureStart f tick bottom).routes } := by
  unfold State.pictureStart
  split
  · rfl
  · split
    · rfl
    · next st _ _ =>
      unfold State.acceptStart
      dsimp only
      have h1 := State.startPicture_only s f st tick (st.startParity bottom)
      generalize s.startPicture f st tick (st.startParity bottom) = a at h1 ⊢
      have h2 := State.store_only a f st (s.feed f).nextSeq (st.startParity bottom)
      generalize a.store f st (s.feed f).nextSeq (st.startParity bottom) = b at h2 ⊢
      have h3 := State.feedChanged_only b f (s.feed f).state (b.feed f).state
      generalize b.feedChanged f (s.feed f).state (b.feed f).state = c at h3 ⊢
      rw [h3, h2, h1]

/-- An active line changes what the feed port holds and the DRAM. -/
theorem State.activeLine_only (s : State) (f : FeedId) (pels : List Pel) :
    s.activeLine f pels =
      { s with feedPorts := (s.activeLine f pels).feedPorts, dram := (s.activeLine f pels).dram } := by
  unfold State.activeLine
  repeat' split
  all_goals rfl

theorem State.packet_only (s : State) (f : FeedId) (p : Packet) :
    s.packet f p = { s with feedPorts := (s.packet f p).feedPorts } := by
  unfold State.packet
  split <;> rfl

theorem State.timecodeIn_only (s : State) (f : FeedId) (tc : Timecode) :
    s.timecodeIn f tc = { s with feedPorts := (s.timecodeIn f tc).feedPorts } := by
  unfold State.timecodeIn
  split <;> rfl

theorem State.offerMonitorAny_only (s : State) (f : FeedId) (o : Option SlotId) :
    s.offerMonitorAny f o =
      { s with monitor := (s.offerMonitorAny f o).monitor, slots := (s.offerMonitorAny f o).slots } := by
  unfold State.offerMonitorAny State.offerMonitor
  repeat' split
  all_goals rfl

theorem State.judgeFeed_only (s : State) (f : FeedId) (st : Standard) (v : Verdict) (m : Option Tick) :
    s.judgeFeed f st v m =
      { s with
        feeds := (s.judgeFeed f st v m).feeds
        routes := (s.judgeFeed f st v m).routes
        slots := (s.judgeFeed f st v m).slots } := by
  unfold State.judgeFeed
  dsimp only
  generalize (s.feed f).filter (s.trackConstant (s.feed f)) v m = g
  generalize g.applyVerdict st v = g
  have h := State.feedChanged_only (s.setFeed f g) f (s.feed f).state g.state
  generalize (s.setFeed f g).feedChanged f (s.feed f).state g.state = a at h ⊢
  rw [h]
  rfl

/-- A picture end changes the feed's records, the Slot Table, the routes and the monitor's latest. -/
theorem State.pictureEnd_only (s : State) (f : FeedId) :
    s.pictureEnd f =
      { s with
        feeds := (s.pictureEnd f).feeds
        feedPorts := (s.pictureEnd f).feedPorts
        slots := (s.pictureEnd f).slots
        routes := (s.pictureEnd f).routes
        monitor := (s.pictureEnd f).monitor } := by
  unfold State.pictureEnd
  split
  · rfl
  · split
    · next st _ _ =>
      unfold State.endFlight State.offer
      dsimp only
      have h1 : ∀ v, s.closePicture f st v =
          { s with
            feeds := (s.closePicture f st v).feeds
            feedPorts := (s.closePicture f st v).feedPorts
            slots := (s.closePicture f st v).slots } := fun _ => rfl
      generalize (s.feed f).flightSeq = seq
      generalize verdictOf st _ _ = v
      generalize (s.feed f).measurement = m
      generalize offeredSlot _ v = o
      generalize matchFlag st _ _ _ _ = b
      have h1 := h1 v
      generalize s.closePicture f st v = a1 at h1 ⊢
      have h2 := State.offerMonitorAny_only a1 f o
      generalize a1.offerMonitorAny f o = a2 at h2 ⊢
      have h3 := State.overRoutes_only a2 (Route.pictureEnd f st seq b o)
      generalize a2.overRoutes (Route.pictureEnd f st seq b o) = a3 at h3 ⊢
      have h4 := State.judgeFeed_only a3 f st v m
      generalize a3.judgeFeed f st v m = a4 at h4 ⊢
      rw [h4, h3, h2, h1]
    · rfl

end Sys2Proof.Machine
end

