-- ==== Sys2Proof/Laws/Loader.lean ====
section
/-! SUPPORT. What the parts of a load change, and that a load's end comes to the same after any part done before it. -/

namespace Sys2Proof.Machine

/-! ## State.setResult -/
@[simp] theorem State.setResult_reference (s : State) (r : LoaderResult) : (s.setResult r).reference = s.reference := rfl
@[simp] theorem State.setResult_timelineA (s : State) (r : LoaderResult) : (s.setResult r).timelineA = s.timelineA := rfl
@[simp] theorem State.setResult_timelineB (s : State) (r : LoaderResult) : (s.setResult r).timelineB = s.timelineB := rfl
@[simp] theorem State.setResult_trackK (s : State) (r : LoaderResult) : (s.setResult r).trackK = s.trackK := rfl
@[simp] theorem State.setResult_feeds (s : State) (r : LoaderResult) : (s.setResult r).feeds = s.feeds := rfl
@[simp] theorem State.setResult_feedPorts (s : State) (r : LoaderResult) : (s.setResult r).feedPorts = s.feedPorts := rfl
@[simp] theorem State.setResult_slots (s : State) (r : LoaderResult) : (s.setResult r).slots = s.slots := rfl
@[simp] theorem State.setResult_dram (s : State) (r : LoaderResult) : (s.setResult r).dram = s.dram := rfl
@[simp] theorem State.setResult_routes (s : State) (r : LoaderResult) : (s.setResult r).routes = s.routes := rfl
@[simp] theorem State.setResult_profiles (s : State) (r : LoaderResult) : (s.setResult r).profiles = s.profiles := rfl
@[simp] theorem State.setResult_ports (s : State) (r : LoaderResult) : (s.setResult r).ports = s.ports := rfl
@[simp] theorem State.setResult_monitor (s : State) (r : LoaderResult) : (s.setResult r).monitor = s.monitor := rfl
@[simp] theorem State.setResult_cu (s : State) (r : LoaderResult) : (s.setResult r).cu = s.cu := rfl
@[simp] theorem State.setResult_presets (s : State) (r : LoaderResult) : (s.setResult r).presets = s.presets := rfl
@[simp] theorem State.setResult_pending (s : State) (r : LoaderResult) : (s.setResult r).pending = s.pending := rfl
@[simp] theorem State.setResult_device (s : State) (r : LoaderResult) : (s.setResult r).device = s.device := rfl
@[simp] theorem State.setResult_loader (s : State) (r : LoaderResult) :
    (s.setResult r).loader = { s.loader with result := r } := rfl

/-! ## State.partDone -/
@[simp] theorem State.partDone_reference (s : State) (stage : LoadStage) : (s.partDone stage).reference = s.reference := rfl
@[simp] theorem State.partDone_timelineA (s : State) (stage : LoadStage) : (s.partDone stage).timelineA = s.timelineA := rfl
@[simp] theorem State.partDone_timelineB (s : State) (stage : LoadStage) : (s.partDone stage).timelineB = s.timelineB := rfl
@[simp] theorem State.partDone_trackK (s : State) (stage : LoadStage) : (s.partDone stage).trackK = s.trackK := rfl
@[simp] theorem State.partDone_feeds (s : State) (stage : LoadStage) : (s.partDone stage).feeds = s.feeds := rfl
@[simp] theorem State.partDone_feedPorts (s : State) (stage : LoadStage) : (s.partDone stage).feedPorts = s.feedPorts := rfl
@[simp] theorem State.partDone_slots (s : State) (stage : LoadStage) : (s.partDone stage).slots = s.slots := rfl
@[simp] theorem State.partDone_dram (s : State) (stage : LoadStage) : (s.partDone stage).dram = s.dram := rfl
@[simp] theorem State.partDone_routes (s : State) (stage : LoadStage) : (s.partDone stage).routes = s.routes := rfl
@[simp] theorem State.partDone_profiles (s : State) (stage : LoadStage) : (s.partDone stage).profiles = s.profiles := rfl
@[simp] theorem State.partDone_ports (s : State) (stage : LoadStage) : (s.partDone stage).ports = s.ports := rfl
@[simp] theorem State.partDone_monitor (s : State) (stage : LoadStage) : (s.partDone stage).monitor = s.monitor := rfl
@[simp] theorem State.partDone_cu (s : State) (stage : LoadStage) : (s.partDone stage).cu = s.cu := rfl
@[simp] theorem State.partDone_presets (s : State) (stage : LoadStage) : (s.partDone stage).presets = s.presets := rfl
@[simp] theorem State.partDone_pending (s : State) (stage : LoadStage) : (s.partDone stage).pending = s.pending := rfl
@[simp] theorem State.partDone_loader (s : State) (stage : LoadStage) :
    (s.partDone stage).loader = { s.loader with stage := stage } := rfl

/-- A part of a load leaves the device scope as the part's own effect does, with the summary word and the line of R161. -/
theorem State.partDone_notified (s : State) (stage : LoadStage) : Notified s (s.partDone stage) s.device.events :=
  ⟨rfl, rfl, rfl⟩

/-! ## The modules (R165 to R167) -/

@[simp] theorem Timeline.setStandard_none (tl : Timeline) : tl.setStandard none = tl := rfl
@[simp] theorem Timeline.setStandard_some (tl : Timeline) (st : Standard) :
    tl.setStandard (some st) = tl.withStandard st := rfl


theorem State.applyHouse_only (s : State) (body : List Word16) :
    s.applyHouse body =
      { s with
        reference := (s.applyHouse body).reference, timelineA := (s.applyHouse body).timelineA
        timelineB := (s.applyHouse body).timelineB, ports := (s.applyHouse body).ports
        device := (s.applyHouse body).device } := rfl

theorem State.applyTrack_only (s : State) (body : List Word16) :
    s.applyTrack body = { s with trackK := (s.applyTrack body).trackK } := rfl

theorem State.applyPresets_only (s : State) (body : List Word16) :
    s.applyPresets body = { s with presets := (s.applyPresets body).presets } := rfl

theorem State.applyProfileEntry_only (body : List Word16) (s : State) (n : Nat) :
    s.applyProfileEntry body n =
      { s with
        profiles := (s.applyProfileEntry body n).profiles
        loader := { s.loader with result := (s.applyProfileEntry body n).loader.result } } := by
  unfold State.applyProfileEntry tryProfileWrite
  split <;> rfl

/-- A Profile module changes the Profile Table and the loader result alone. -/
theorem State.applyProfiles_only (s : State) (body : List Word16) :
    s.applyProfiles body =
      { s with
        profiles := (s.applyProfiles body).profiles
        loader := { s.loader with result := (s.applyProfiles body).loader.result } } := by
  unfold State.applyProfiles
  generalize List.range (body.length / 19) = l
  induction l generalizing s with
  | nil => rfl
  | cons n l ih =>
    rw [List.foldl_cons, ih]
    have h := State.applyProfileEntry_only body s n
    generalize State.applyProfileEntry body s n = a at h ⊢
    rw [h]

theorem State.applyFeedEntry_only (body : List Word16) (s : State) (f : Nat) :
    s.applyFeedEntry body f =
      { s with
        feeds := (s.applyFeedEntry body f).feeds, feedPorts := (s.applyFeedEntry body f).feedPorts
        slots := (s.applyFeedEntry body f).slots
        loader := { s.loader with result := (s.applyFeedEntry body f).loader.result } } := by
  unfold State.applyFeedEntry tryFeedSet
  split
  · split
    · unfold State.applyFeedSet
      dsimp only
      split
      · rfl
      · have h := State.abandon_only s (feedEntry body f).feedId
        generalize s.abandon (feedEntry body f).feedId = a at h ⊢
        rw [h]
        rfl
    · rfl
  · rfl

/-- A Feed module changes the Feed Table, the feed ports, the slots of pictures in flight and the loader result alone. -/
theorem State.applyFeeds_only (s : State) (body : List Word16) :
    s.applyFeeds body =
      { s with
        feeds := (s.applyFeeds body).feeds, feedPorts := (s.applyFeeds body).feedPorts
        slots := (s.applyFeeds body).slots
        loader := { s.loader with result := (s.applyFeeds body).loader.result } } := by
  unfold State.applyFeeds
  generalize List.range 8 = l
  induction l generalizing s with
  | nil => rfl
  | cons n l ih =>
    rw [List.foldl_cons, ih]
    have h := State.applyFeedEntry_only body s n
    generalize State.applyFeedEntry body s n = a at h ⊢
    rw [h]

/-- An opening changes the Route Table, the feeds' route counts and the loader result alone (R168). -/
theorem State.openPreset_only (s : State) (n : PresetId) :
    s.openPreset n =
      { s with
        routes := (s.openPreset n).routes, feeds := (s.openPreset n).feeds
        loader := { s.loader with result := (s.openPreset n).loader.result } } := by
  unfold State.openPreset
  split
  · rfl
  · unfold tryOpen
    repeat' split
    all_goals rfl

/-! ## The parts of a load -/

/-- A load's end does every part that is left, so a part done before it changes nothing of what it comes to. -/
theorem State.restOfLoad_loadPart (s : State) : s.loadPart.restOfLoad = s.restOfLoad := by
  unfold State.loadPart
  split
  · next h =>
    unfold State.restOfLoad
    rw [if_pos h]
    unfold State.testImage
    split <;> simp
  all_goals first
    | rfl
    | (next h => simp [State.restOfLoad, State.restOfImage, applyAll, openAll, State.beginOpenings, h])

end Sys2Proof.Machine
end

