-- ==== Sys2Proof/Laws/Memory.lean ====
section
/-! SUPPORT. The stacked DRAM: a write keeps the canonical form, gives what was written where it was written, and leaves
every other byte alone. -/

namespace Sys2Proof.Machine

/-! ## The entries of a run of bytes -/

theorem Memory.cells_mem (base : Nat) (bytes : List (BitVec 8)) (c : Host.Cell) (h : c ∈ Memory.cells base bytes) :
    base ≤ c.1 ∧ c.1 < base + bytes.length ∧ c.2 ≠ 0 := by
  induction bytes generalizing base with
  | nil => simp [Memory.cells] at h
  | cons b bs ih =>
    simp only [Memory.cells] at h
    split at h
    · have := ih (base + 1) h
      simp only [List.length_cons]
      exact ⟨by omega, by omega, this.2.2⟩
    · rcases List.mem_cons.mp h with rfl | h
      · simp only [List.length_cons]
        exact ⟨Nat.le_refl _, by omega, by assumption⟩
      · have := ih (base + 1) h
        simp only [List.length_cons]
        exact ⟨by omega, by omega, this.2.2⟩

theorem Memory.cells_pairwise (base : Nat) (bytes : List (BitVec 8)) :
    (Memory.cells base bytes).Pairwise (fun x y => x.1 < y.1) := by
  induction bytes generalizing base with
  | nil => simp [Memory.cells]
  | cons b bs ih =>
    simp only [Memory.cells]
    split
    · exact ih (base + 1)
    · refine List.pairwise_cons.mpr ⟨?_, ih (base + 1)⟩
      intro c hc
      have := Memory.cells_mem (base + 1) bs c hc
      show base < c.1
      omega

/-! ## A write keeps the canonical form -/

/-- Every memory operation keeps the canonical form: a write is the only one. -/
theorem Memory.write_wf (m : List Host.Cell) (base : Nat) (bytes : List (BitVec 8)) (h : Memory.wf m) :
    Memory.wf (Memory.write m base bytes) := by
  obtain ⟨hp, hm⟩ := h
  unfold Memory.write
  constructor
  · rw [List.pairwise_append]
    refine ⟨?_, hp.filter _, ?_⟩
    · rw [List.pairwise_append]
      refine ⟨hp.filter _, (Memory.cells_pairwise base bytes).filter _, ?_⟩
      intro x hx y hy
      have h1 := (List.mem_filter.mp hx).2
      have h2 := Memory.cells_mem base bytes y (List.mem_filter.mp hy).1
      simp only [decide_eq_true_eq] at h1
      omega
    · intro x hx y hy
      have h2 := (List.mem_filter.mp hy).2
      simp only [decide_eq_true_eq] at h2
      rcases List.mem_append.mp hx with hx | hx
      · have h1 := (List.mem_filter.mp hx).2
        simp only [decide_eq_true_eq] at h1
        omega
      · have h1 := Memory.cells_mem base bytes x (List.mem_filter.mp hx).1
        omega
  · intro c hc
    rcases List.mem_append.mp hc with hc | hc
    · rcases List.mem_append.mp hc with hc | hc
      · exact hm c (List.mem_filter.mp hc).1
      · have h1 := Memory.cells_mem base bytes c (List.mem_filter.mp hc).1
        have h2 := (List.mem_filter.mp hc).2
        simp only [decide_eq_true_eq] at h2
        exact ⟨h1.2.2, h2⟩
    · exact hm c (List.mem_filter.mp hc).1

/-! ## Reading after a write -/

theorem Memory.find_filter (m : List Host.Cell) (p : Host.Cell → Bool) (a : Nat) (h : ∀ c, c.1 = a → p c = true) :
    (m.filter p).find? (fun c => c.1 == a) = m.find? (fun c => c.1 == a) := by
  induction m with
  | nil => rfl
  | cons c m ih =>
    by_cases hc : c.1 = a
    · simp [h c hc, hc]
    · by_cases hp : p c = true
      · simp [hp, hc, ih]
      · simp [hp, hc, ih]

theorem Memory.find_none (m : List Host.Cell) (a : Nat) (h : ∀ c ∈ m, c.1 ≠ a) :
    m.find? (fun c => c.1 == a) = none := by
  rw [List.find?_eq_none]
  intro c hc
  simpa using h c hc

/-- A write leaves every byte outside its run as it was. -/
theorem Memory.read_write_outside (m : List Host.Cell) (base : Nat) (bytes : List (BitVec 8)) (a : Nat)
    (h : a < base ∨ base + bytes.length ≤ a) :
    Memory.read (Memory.write m base bytes) a = Memory.read m a := by
  have key : (Memory.write m base bytes).find? (fun c => c.1 == a) = m.find? (fun c => c.1 == a) := by
    unfold Memory.write
    rw [List.find?_append, List.find?_append]
    have hmid : ((Memory.cells base bytes).filter (fun c => decide (c.1 < dramBytes))).find? (fun c => c.1 == a)
        = none := by
      apply Memory.find_none
      intro c hc
      have := Memory.cells_mem base bytes c (List.mem_filter.mp hc).1
      omega
    rw [hmid]
    rcases h with h | h
    · rw [Memory.find_filter m _ a (by intro c hc; simpa [hc] using h)]
      have h3 : (m.filter (fun c => decide (base + bytes.length ≤ c.1))).find? (fun c => c.1 == a) = none := by
        apply Memory.find_none
        intro c hc
        have := (List.mem_filter.mp hc).2
        simp only [decide_eq_true_eq] at this
        omega
      rw [h3]
      simp
    · have h1 : (m.filter (fun c => decide (c.1 < base))).find? (fun c => c.1 == a) = none := by
        apply Memory.find_none
        intro c hc
        have := (List.mem_filter.mp hc).2
        simp only [decide_eq_true_eq] at this
        omega
      rw [h1, Memory.find_filter m _ a (by intro c hc; simpa [hc] using h)]
      simp
  unfold Memory.read
  rw [key]

theorem Memory.read_cells (base : Nat) (bytes : List (BitVec 8)) (i : Nat) (h : i < bytes.length) :
    Memory.read (Memory.cells base bytes) (base + i) = bytes[i] := by
  induction bytes generalizing base i with
  | nil => exact absurd h (by simp)
  | cons b bs ih =>
    have hnot : ∀ j, (Memory.cells (base + 1 + j) bs).find? (fun c => c.1 == base) = none := by
      intro j
      apply Memory.find_none
      intro c hc
      have := Memory.cells_mem _ bs c hc
      omega
    cases i with
    | zero =>
      simp only [Memory.cells]
      split
      · next hb => simp [Memory.read, hnot 0, hb]
      · simp [Memory.read]
    | succ i =>
      have ih' := ih (base + 1) i (by simpa using h)
      have hadd : base + (i + 1) = base + 1 + i := by omega
      simp only [Memory.cells]
      split
      · rw [hadd]; simpa using ih'
      · rw [hadd]
        have hne : (base == base + 1 + i) = false := by simp; omega
        simp only [Memory.read] at ih' ⊢
        simpa [List.find?_cons, hne] using ih'

/-- A read inside a write's run gives the byte written there. -/
theorem Memory.read_write_inside (m : List Host.Cell) (base : Nat) (bytes : List (BitVec 8)) (i : Nat)
    (h : i < bytes.length) (hd : base + i < dramBytes) :
    Memory.read (Memory.write m base bytes) (base + i) = bytes[i] := by
  rw [← Memory.read_cells base bytes i h]
  have key : (Memory.write m base bytes).find? (fun c => c.1 == base + i)
      = (Memory.cells base bytes).find? (fun c => c.1 == base + i) := by
    unfold Memory.write
    rw [List.find?_append, List.find?_append]
    have h1 : (m.filter (fun c => decide (c.1 < base))).find? (fun c => c.1 == base + i) = none := by
      apply Memory.find_none
      intro c hc
      have := (List.mem_filter.mp hc).2
      simp only [decide_eq_true_eq] at this
      omega
    have h3 : (m.filter (fun c => decide (base + bytes.length ≤ c.1))).find? (fun c => c.1 == base + i) = none := by
      apply Memory.find_none
      intro c hc
      have := (List.mem_filter.mp hc).2
      simp only [decide_eq_true_eq] at this
      omega
    rw [h1, h3, Memory.find_filter _ _ _ (by intro c hc; simpa [hc] using hd)]
    simp
  unfold Memory.read
  rw [key]

/-! ## The bytes of a line (R40) -/

@[simp] theorem sampleBytes_length (x : Sample) : (sampleBytes x).length = 2 := rfl

@[simp] theorem lineBytes_length (pels : List Pel) : (lineBytes pels).length = 4 * pels.length := by
  induction pels with
  | nil => rfl
  | cons p ps ih =>
    simp only [lineBytes, List.flatMap_cons, List.length_append, List.length_cons, sampleBytes_length] at ih ⊢
    omega

/-- Every line the port writes lies inside the region of its slot (R40). -/
theorem pelAddress_in_region (i : SlotId) (st : Standard) (k : Nat) (h : k < st.lines) :
    i.val * slotBytes ≤ pelAddress i st.width k 0 ∧
    pelAddress i st.width k 0 + 4 * st.width ≤ (i.val + 1) * slotBytes := by
  unfold pelAddress slotBytes
  cases st <;> simp only [Standard.lines, Standard.width, Standard.family, Family.width] at h ⊢ <;> omega

end Sys2Proof.Machine
end

