-- ==== Sys2Proof/Laws/Output.lean ====
section
/-! SUPPORT. What beginning a boundary interval and producing an output line change. -/

namespace Sys2Proof.Machine

/-! ## A boundary interval begun (R113) -/

@[simp] theorem State.beginInterval_port (s : State) (p q : PortId) :
    (s.beginInterval p).port q = if p = q then { s.port p with standard := s.portStandard p } else s.port q :=
  State.setPort_port s p q _

@[simp] theorem State.beginInterval_routes (s : State) (p : PortId) : (s.beginInterval p).routes = s.routes := rfl
@[simp] theorem State.beginInterval_slots (s : State) (p : PortId) : (s.beginInterval p).slots = s.slots := rfl
@[simp] theorem State.beginInterval_monitor (s : State) (p : PortId) : (s.beginInterval p).monitor = s.monitor := rfl

@[simp] theorem State.beginMonitorInterval_slots (s : State) (st : Standard) :
    (s.beginMonitorInterval st).slots = s.slots := rfl
@[simp] theorem State.beginMonitorInterval_ports (s : State) (st : Standard) :
    (s.beginMonitorInterval st).ports = s.ports := rfl

/-! ## A line produced (R104, R112) -/

/-- A line produced moves the picture on and sets its clipped flag at a clamp, whatever the picture's kind. -/
@[simp] theorem Route.produce_picture (r : Route) (pic : Picture) (clamped : Bool) :
    (r.produce pic clamped).picture =
      some { pic with nextLine := pic.nextLine + 1, clipped := pic.clipped || clamped } := rfl

/-- Only a LIVE picture of a live route counts, and only its first clamp (R112). -/
theorem Route.produce_uncounted (r : Route) (pic : Picture) (clamped : Bool)
    (h : clamped = false ∨ pic.clipped = true ∨ pic.kind ≠ .live ∨ r.state.live = false) :
    r.produce pic clamped = { r with picture := some (pic.advance clamped) } := by
  unfold Route.produce Route.countClip
  rw [if_neg]
  rcases h with h | h | h | h <;> simp [h]

end Sys2Proof.Machine
end

