-- ==== Sys2Proof/WellFormed.lean ====
section
/-! DEFINITION. The checks a command's operands meet when they come from the part's own inputs. -/

namespace Sys2Proof

/-- The addresses of the two index words the controller writes (12, The control window): a write of one of them is
a row of its own. -/
def isIndexAddress (address : BitVec 11) : Bool :=
  address == 0x600 || address == 0x603

/-- A write of the control word with a reset bit set is RING_RESET or CONTROL_RESET (R155, R156). -/
def isResetWrite (address : BitVec 11) (value : Word) : Bool :=
  address == 0x605 && (value.getLsbD 0 || value.getLsbD 1)

/-- A line holds the samples of one line of a standard: 720 columns in SD and 1920 in HD (R1). -/
def isLineLength (n : Nat) : Bool :=
  n == 720 || n == 1920

/-- Whether a command's operands are such as the part's inputs give. -/
def Instr.wellFormed : Instr → Bool
  | .controlWindowWrite address value => !isIndexAddress address && !isResetWrite address value
  | .activeLine _ pels => isLineLength pels.length
  | .ancillaryPacket _ packet => decide (packet.payload.length ≤ 255)
  | .flashRead words => decide ((words.getD []).length ≤ 65536)
  | .powerOnReset _ => true
  | .controlReset => true
  | .ringReset => true
  | .commandWriteIndexWrite _ => true
  | .replyReadIndexWrite _ => true
  | .routeOpen => true
  | .routeAlter => true
  | .routeClose => true
  | .routeRead => true
  | .routeHold => true
  | .routeRelease => true
  | .routeTrim => true
  | .presetOpen => true
  | .feedSet => true
  | .feedRead => true
  | .trackSet => true
  | .profileWrite => true
  | .profileRead => true
  | .timelineSet _ => true
  | .timelineRead => true
  | .portSet => true
  | .portMute => true
  | .referenceSet => true
  | .monitorSet => true
  | .checkSet => true
  | .eventsTake => true
  | .notifySet => true
  | .deviceRead => true
  | .referencePulse _ => true
  | .referenceAbsence => true
  | .outputBoundary _ => true
  | .outputLine _ => true
  | .pictureStart _ _ _ => true
  | .pictureTimecode _ _ => true
  | .pictureEnd _ => true
  | .silenceExpiry _ => true
  | .loadEnd _ => true

end Sys2Proof
end

