-- ==== Sys2Proof/Laws/PerInstr.lean ====
section
/-! SUPPORT. One law for each command: a ring command has one kind, and its operands are none but a tick, so it is
well-formed. -/

namespace Sys2Proof.Laws.RingKinds

/-- A command that takes a ring command of a kind takes one of that kind alone, and is well-formed. -/
def Statement (i : Instr) : Prop :=
  ∀ (k : CmdKind) (tick : Tick), i = Machine.ringInstr tick k →
    i.wellFormed = true ∧ ∀ (l : CmdKind) (other : Tick), i = Machine.ringInstr other l → l = k

/-- The kind of a ring command can be read off its constructor. -/
theorem ring_kind_is_one (i : Instr) : Statement i := by
  intro k tick h
  subst h
  refine ⟨by cases k <;> rfl, ?_⟩
  intro l other h
  cases k <;> cases l <;> first | rfl | simp [Machine.ringInstr] at h

theorem powerOnReset (autostart : Bool) : Statement (.powerOnReset autostart) :=
  ring_kind_is_one _

theorem controlReset : Statement .controlReset :=
  ring_kind_is_one _

theorem ringReset : Statement .ringReset :=
  ring_kind_is_one _

theorem commandWriteIndexWrite (value : Word) : Statement (.commandWriteIndexWrite value) :=
  ring_kind_is_one _

theorem replyReadIndexWrite (value : Word) : Statement (.replyReadIndexWrite value) :=
  ring_kind_is_one _

theorem controlWindowWrite (address : BitVec 11) (value : Word) : Statement (.controlWindowWrite address value) :=
  ring_kind_is_one _

theorem routeOpen : Statement .routeOpen :=
  ring_kind_is_one _

theorem routeAlter : Statement .routeAlter :=
  ring_kind_is_one _

theorem routeClose : Statement .routeClose :=
  ring_kind_is_one _

theorem routeRead : Statement .routeRead :=
  ring_kind_is_one _

theorem routeHold : Statement .routeHold :=
  ring_kind_is_one _

theorem routeRelease : Statement .routeRelease :=
  ring_kind_is_one _

theorem routeTrim : Statement .routeTrim :=
  ring_kind_is_one _

theorem presetOpen : Statement .presetOpen :=
  ring_kind_is_one _

theorem feedSet : Statement .feedSet :=
  ring_kind_is_one _

theorem feedRead : Statement .feedRead :=
  ring_kind_is_one _

theorem trackSet : Statement .trackSet :=
  ring_kind_is_one _

theorem profileWrite : Statement .profileWrite :=
  ring_kind_is_one _

theorem profileRead : Statement .profileRead :=
  ring_kind_is_one _

theorem timelineSet (tick : Tick) : Statement (.timelineSet tick) :=
  ring_kind_is_one _

theorem timelineRead : Statement .timelineRead :=
  ring_kind_is_one _

theorem portSet : Statement .portSet :=
  ring_kind_is_one _

theorem portMute : Statement .portMute :=
  ring_kind_is_one _

theorem referenceSet : Statement .referenceSet :=
  ring_kind_is_one _

theorem monitorSet : Statement .monitorSet :=
  ring_kind_is_one _

theorem checkSet : Statement .checkSet :=
  ring_kind_is_one _

theorem eventsTake : Statement .eventsTake :=
  ring_kind_is_one _

theorem notifySet : Statement .notifySet :=
  ring_kind_is_one _

theorem deviceRead : Statement .deviceRead :=
  ring_kind_is_one _

theorem referencePulse (tick : Tick) : Statement (.referencePulse tick) :=
  ring_kind_is_one _

theorem referenceAbsence : Statement .referenceAbsence :=
  ring_kind_is_one _

theorem outputBoundary (timeline : TimelineId) : Statement (.outputBoundary timeline) :=
  ring_kind_is_one _

theorem outputLine (output : OutputId) : Statement (.outputLine output) :=
  ring_kind_is_one _

theorem pictureStart (feed : FeedId) (tick : Tick) (bottom : Bool) : Statement (.pictureStart feed tick bottom) :=
  ring_kind_is_one _

theorem activeLine (feed : FeedId) (pels : List Pel) : Statement (.activeLine feed pels) :=
  ring_kind_is_one _

theorem ancillaryPacket (feed : FeedId) (packet : Packet) : Statement (.ancillaryPacket feed packet) :=
  ring_kind_is_one _

theorem pictureTimecode (feed : FeedId) (timecode : Timecode) : Statement (.pictureTimecode feed timecode) :=
  ring_kind_is_one _

theorem pictureEnd (feed : FeedId) : Statement (.pictureEnd feed) :=
  ring_kind_is_one _

theorem silenceExpiry (feed : FeedId) : Statement (.silenceExpiry feed) :=
  ring_kind_is_one _

theorem flashRead (words : Option (List Word16)) : Statement (.flashRead words) :=
  ring_kind_is_one _

theorem loadEnd (tick : Tick) : Statement (.loadEnd tick) :=
  ring_kind_is_one _

end Sys2Proof.Laws.RingKinds
end

