-- ==== Sys2Proof/Laws/Slots.lean ====
section
/-! SUPPORT. What each operation on the slot counts does to each slot record (R47 to R49): the later proofs cite these
and never unfold the operations. -/

namespace Sys2Proof.Machine

/-! ## One count of one slot -/

theorem SlotTable.hold_slot (t : SlotTable) (i k : SlotId) :
    tget (SlotTable.hold t i) k = if i = k then { tget t k with hold := (tget t k).hold + 1 } else tget t k := by
  unfold SlotTable.hold
  rw [tget_tset]
  split
  · next h => rw [h]
  · rfl

theorem SlotTable.unhold_slot (t : SlotTable) (i k : SlotId) :
    tget (SlotTable.unhold t i) k =
      if i = k then { tget t k with hold := (tget t k).hold - 1 }.settle else tget t k := by
  unfold SlotTable.unhold
  rw [tget_tset]
  split
  · next h => rw [h]
  · rfl

theorem SlotTable.pin_slot (t : SlotTable) (i k : SlotId) :
    tget (SlotTable.pin t i) k = if i = k then { tget t k with pin := (tget t k).pin + 1 } else tget t k := by
  unfold SlotTable.pin
  rw [tget_tset]
  split
  · next h => rw [h]
  · rfl

theorem SlotTable.unpin_slot (t : SlotTable) (i k : SlotId) :
    tget (SlotTable.unpin t i) k =
      if i = k then { tget t k with pin := (tget t k).pin - 1 }.settle else tget t k := by
  unfold SlotTable.unpin
  rw [tget_tset]
  split
  · next h => rw [h]
  · rfl

/-! ## Settling (R49) -/

@[simp] theorem Slot.settle_hold (x : Slot) : x.settle.hold = x.hold := by unfold Slot.settle; split <;> rfl
@[simp] theorem Slot.settle_pin (x : Slot) : x.settle.pin = x.pin := by unfold Slot.settle; split <;> rfl
@[simp] theorem Slot.settle_seq (x : Slot) : x.settle.seq = x.seq := by unfold Slot.settle; split <;> rfl
@[simp] theorem Slot.settle_standard (x : Slot) : x.settle.standard = x.standard := by
  unfold Slot.settle; split <;> rfl
@[simp] theorem Slot.settle_parity (x : Slot) : x.settle.parity = x.parity := by unfold Slot.settle; split <;> rfl
@[simp] theorem Slot.settle_timecode (x : Slot) : x.settle.timecode = x.timecode := by
  unfold Slot.settle; split <;> rfl
@[simp] theorem Slot.settle_packets (x : Slot) : x.settle.packets = x.packets := by
  unfold Slot.settle; split <;> rfl

/-- A settled slot is FREE when it was READY with both counts 0, and is as it was otherwise. -/
theorem Slot.settle_state (x : Slot) :
    x.settle.state = if x.state = .ready ∧ x.hold = 0 ∧ x.pin = 0 then .free else x.state := by
  unfold Slot.settle; split <;> rfl

/-- A slot that is not READY, or that something holds or uses, settles as it is. -/
theorem Slot.settle_of_not (x : Slot) (h : ¬(x.state = .ready ∧ x.hold = 0 ∧ x.pin = 0)) : x.settle = x :=
  if_neg h

/-- Two lowerings of a hold count settle as their sum does. -/
theorem Slot.settle_lower_hold (x : Slot) (a n : Nat) :
    { ({ x with hold := a } : Slot).settle with hold := a - n }.settle = ({ x with hold := a - n } : Slot).settle := by
  by_cases h : x.state = .ready ∧ a = 0 ∧ x.pin = 0
  · obtain ⟨h1, h2, h3⟩ := h
    subst h2
    simp [Slot.settle, h1, h3]
  · rw [Slot.settle_of_not { x with hold := a } h]

/-- Two lowerings of a pin count settle as their sum does. -/
theorem Slot.settle_lower_pin (x : Slot) (a n : Nat) :
    { ({ x with pin := a } : Slot).settle with pin := a - n }.settle = ({ x with pin := a - n } : Slot).settle := by
  by_cases h : x.state = .ready ∧ x.hold = 0 ∧ a = 0
  · obtain ⟨h1, h2, h3⟩ := h
    subst h3
    simp [Slot.settle, h1, h2]
  · rw [Slot.settle_of_not { x with pin := a } h]

/-! ## Lists of slots -/

/-- Lowering the hold counts of a list of slots lowers each by the number of its places in the list. -/
theorem SlotTable.unholdAll_slot (t : SlotTable) (l : List SlotId) (k : SlotId) :
    tget (SlotTable.unholdAll t l) k =
      if k ∈ l then { tget t k with hold := (tget t k).hold - l.count k }.settle else tget t k := by
  unfold SlotTable.unholdAll
  induction l generalizing t with
  | nil => simp
  | cons i l ih =>
    rw [List.foldl_cons, ih]
    by_cases hik : i = k
    · subst hik
      simp only [SlotTable.unhold_slot, if_true, List.mem_cons, true_or, List.count_cons_self]
      by_cases hl : i ∈ l
      · rw [if_pos hl, Slot.settle_hold]
        rw [show (tget t i).hold - (l.count i + 1) = (tget t i).hold - 1 - l.count i by omega]
        exact Slot.settle_lower_hold _ _ _
      · rw [if_neg hl, List.count_eq_zero_of_not_mem hl]
    · have hki : ¬k = i := fun h => hik h.symm
      simp only [SlotTable.unhold_slot, hik, if_false, List.mem_cons, hki, false_or]
      rw [List.count_cons_of_ne (by simpa using hik)]

/-- Raising the pin counts of a list of slots raises each by the number of its places in the list. -/
theorem SlotTable.pinAll_slot (t : SlotTable) (l : List SlotId) (k : SlotId) :
    tget (l.foldl SlotTable.pin t) k = { tget t k with pin := (tget t k).pin + l.count k } := by
  induction l generalizing t with
  | nil => simp
  | cons i l ih =>
    rw [List.foldl_cons, ih]
    by_cases hik : i = k
    · subst hik
      simp only [SlotTable.pin_slot, if_true, List.count_cons_self]
      congr 1
      omega
    · simp only [SlotTable.pin_slot, hik, if_false]
      rw [List.count_cons_of_ne (by simpa using hik)]

/-- Lowering the pin counts of a list of slots lowers each by the number of its places in the list. -/
theorem SlotTable.unpinAll_slot (t : SlotTable) (l : List SlotId) (k : SlotId) :
    tget (l.foldl SlotTable.unpin t) k =
      if k ∈ l then { tget t k with pin := (tget t k).pin - l.count k }.settle else tget t k := by
  induction l generalizing t with
  | nil => simp
  | cons i l ih =>
    rw [List.foldl_cons, ih]
    by_cases hik : i = k
    · subst hik
      simp only [SlotTable.unpin_slot, if_true, List.mem_cons, true_or, List.count_cons_self]
      by_cases hl : i ∈ l
      · rw [if_pos hl, Slot.settle_pin]
        rw [show (tget t i).pin - (l.count i + 1) = (tget t i).pin - 1 - l.count i by omega]
        exact Slot.settle_lower_pin _ _ _
      · rw [if_neg hl, List.count_eq_zero_of_not_mem hl]
    · have hki : ¬k = i := fun h => hik h.symm
      simp only [SlotTable.unpin_slot, hik, if_false, List.mem_cons, hki, false_or]
      rw [List.count_cons_of_ne (by simpa using hik)]

/-- Replacing a pair (R48): a slot in both pairs, or in neither, is as it was; one only in the new pair gains its
places there, one only in the old pair loses its places there and is freed when nothing is left. -/
theorem SlotTable.replacePair_slot (t : SlotTable) (old new : List SlotId) (k : SlotId) :
    tget (SlotTable.replacePair t old new) k =
      if k ∈ old ∧ k ∉ new then { tget t k with pin := (tget t k).pin - old.count k }.settle
      else if k ∈ new ∧ k ∉ old then { tget t k with pin := (tget t k).pin + new.count k }
      else tget t k := by
  unfold SlotTable.replacePair
  rw [SlotTable.unpinAll_slot, SlotTable.pinAll_slot]
  by_cases ho : k ∈ old <;> by_cases hn : k ∈ new
  · simp [ho, hn, List.count_eq_zero_of_not_mem]
  · have h0 : (new.filter (fun i => !old.contains i)).count k = 0 :=
      List.count_eq_zero_of_not_mem (by simp [ho])
    rw [h0]
    simp [ho, hn, List.count_filter]
  · simp [ho, hn, List.count_filter]
  · have h0 : (new.filter (fun i => !old.contains i)).count k = 0 :=
      List.count_eq_zero_of_not_mem (by simp [hn])
    rw [h0]
    simp [ho, hn]

/-- Releasing a pair (R48): each slot of the pair loses its places there and is freed when nothing is left. -/
theorem SlotTable.releasePair_slot (t : SlotTable) (old : List SlotId) (k : SlotId) :
    tget (SlotTable.releasePair t old) k =
      if k ∈ old then { tget t k with pin := (tget t k).pin - old.count k }.settle else tget t k := by
  unfold SlotTable.releasePair
  rw [SlotTable.replacePair_slot]
  simp

/-- A slot handed back is FREE with both counts 0; the others are as they were (R44). -/
theorem SlotTable.release_slot (t : SlotTable) (i k : SlotId) :
    tget (SlotTable.release t i) k =
      if i = k then { tget t k with state := .free, hold := 0, pin := 0 } else tget t k := by
  unfold SlotTable.release
  rw [tget_tset]
  split
  · next h => rw [h]
  · rfl

theorem SlotTable.handBack_slot (t : SlotTable) (w : Option SlotId) (k : SlotId) :
    tget (SlotTable.handBack t w) k =
      if w = some k then { tget t k with state := .free, hold := 0, pin := 0 } else tget t k := by
  cases w with
  | none => simp [SlotTable.handBack]
  | some i => simp [SlotTable.handBack, SlotTable.release_slot]

/-- The slots of an emptied window (R47). -/
theorem dropWindow_slot (r : Route) (t : SlotTable) (k : SlotId) :
    tget (dropWindow r t) k =
      if k ∈ windowSlots r.window then
        { tget t k with hold := (tget t k).hold - (windowSlots r.window).count k }.settle
      else tget t k :=
  SlotTable.unholdAll_slot _ _ _

end Sys2Proof.Machine
end

