-- ==== Sys2Proof/Tests/Slice0.lean ====
section
/-! SUPPORT. Tests: the well-formedness checks, small steps against the reference's worked examples and tables, and for
every statement with hypotheses a state and operands that meet them. -/

namespace Sys2Proof.Tests

set_option Elab.async false

open Sys2Proof.Machine

/-! ## Helpers -/

/-- Whether an outcome is a next state that meets a test. -/
def nextWith (o : Host.Outcome State Fault Refusal) (p : State → Bool) : Bool :=
  match o with
  | .next t => p t
  | .fault _ => false
  | .refused _ => false

/-- The header of a command with tag 0x5A (12, The control window). -/
def headerOf (k : CmdKind) (args : List Word) : Word :=
  BitVec.ofNat 32 (kindCode k + 256 * 0x5A + 65536 * (args.length + 1))

/-- Words placed in the command ring from word 0. -/
def placed (ring : Vector Word 1024) (words : List Word) : Vector Word 1024 :=
  (words.foldl (fun acc w => (tset acc.1 acc.2 w, acc.2 + 1)) (ring, (0 : Fin 1024))).1

/-- A state out of its load, with words in the command ring up to the write index and a state of the CU. -/
def ringed (s : State) (cuState : CuState) (words : List Word) : State :=
  { s with
    cu := { s.cu with
      state := cuState, cmdRing := placed s.cu.cmdRing words, cmdWrite := Fin.ofNat 1024 words.length }
    loader := { s.loader with stage := .none } }

/-- A state in which a ring command is due. -/
def due (s : State) (k : CmdKind) (args : List Word) : State :=
  ringed s .takeDue (headerOf k args :: args)

/-- The command that is due there. -/
def command (k : CmdKind) (args : List Word) : Command :=
  { kind := k, tag := 0x5A, length := args.length + 1, args := args }

/-- Whether, after a ring command, a word of its reply reads a value and the state meets a test. -/
def replies (s : State) (k : CmdKind) (args : List Word) (n : Fin 512) (w : Word) (p : State → Bool) : Bool :=
  nextWith (exec (ringInstr 0 k) (due s k args)) (fun t => tget t.cu.replyRing n == w && p t)

/-- An open of feed 2 on port 0. -/
def request : OpenRequest :=
  { feed := 2, port := 0, profile := 0, trim := 25, cadence := 0, timecode := 1, unmapped := 1, holdLimit := 10
    retireLimit := 20, mapCount := 0, entries := [] }

/-- A packet of family 7. -/
def packet : Packet := { key := { family := 7, kind := 1 }, payload := [9] }

/-- A READY slot of feed 2. -/
def readySlot (seq : BitVec 32) (pin : Nat) : Slot :=
  { state := .ready, seq := seq, standard := some .h50i, parity := .top, timecode := none, packets := [packet], hold := 1
    pin := pin }

/-- Feed 2 in LOCKED on H50I with a picture in flight. -/
def busyFeed : Feed :=
  { Feed.reset with
    standard := some .h50i, trackSlot := 1, state := .locked, period := 138240000, lastStart := some 1000000
    inFlight := true, measurement := some 540120, goodRun := 4, routeCount := 1, nextSeq := 5, writing := some 35 }

/-- Route 0 in RUNNING from feed 2 to port 0. -/
def busyRoute : Route :=
  { openedRoute 3 request .h50i with
    state := .running, nextAdmit := 3, phase := 60000, settled := true
    window := [{ slot := 32, seq := 1, admitNumber := 0 }, { slot := 33, seq := 2, admitNumber := 1 },
      { slot := 34, seq := 3, admitNumber := 2 }]
    pair := some { slots := .both 32 33, weight := 40, shaped := 40, curve := .curve linearPoints }
    checker := some { state := .hunt, run := 7, results := [], previous := some 0 } }

/-- The Slot Table of the busy state. -/
def busySlots : SlotTable :=
  tset (tset (tset (tset State.reset.slots 32 (readySlot 1 1)) 33 (readySlot 2 1)) 34 (readySlot 3 0)) 35
    { readySlot 4 0 with state := .writing, hold := 0, packets := [] }

/-- The port of feed 2 in the middle of its picture. -/
def busyPort : FeedPort :=
  { FeedPort.reset with framing := .accepted, parity := .top, lineCount := 540, packets := [packet] }

/-- A part out of its load, with timelines running, and a route and a feed in work. -/
def busyWith (r : Route → Route) (f : Feed → Feed) : State :=
  { ringed State.reset .idle [] with
    timelineA := Timeline.start State.reset.timelineA 0
    timelineB := Timeline.start State.reset.timelineB 0
    feeds := tset State.reset.feeds 2 (f busyFeed)
    feedPorts := tset State.reset.feedPorts 2 busyPort
    routes := tset State.reset.routes 0 (r busyRoute)
    slots := busySlots }

/-- The busy part as it is. -/
def busy : State := busyWith id id

/-- The busy part with no picture in flight. -/
def restingFeed (f : Feed) : Feed := { f with inFlight := false, measurement := none, writing := none }

/-- The reply header of an OK reply of a length. -/
def okHeader (k : CmdKind) (length : Nat) : Word := BitVec.ofNat 32 (kindCode k + 256 * 0x5A + 16777216 * length)

/-- The reply header of a refusal. -/
def refusalHeader (k : CmdKind) (status : Nat) : Word :=
  BitVec.ofNat 32 (kindCode k + 256 * 0x5A + 65536 * status + 16777216)

/-! ## Well-formedness: a term for each check that the check refuses -/

theorem test_ill_formed_index_writes :
    Instr.wellFormed (.controlWindowWrite 0x600 5) = false ∧ Instr.wellFormed (.controlWindowWrite 0x603 5) = false := by
  decide

theorem test_ill_formed_reset_writes :
    Instr.wellFormed (.controlWindowWrite 0x605 1) = false ∧ Instr.wellFormed (.controlWindowWrite 0x605 2) = false ∧
      Instr.wellFormed (.controlWindowWrite 0x605 4) = true := by
  decide

theorem test_ill_formed_line : Instr.wellFormed (.activeLine 0 []) = false := by decide

theorem test_ill_formed_packet :
    Instr.wellFormed (.ancillaryPacket 0 { key := { family := 7, kind := 1 }, payload := List.replicate 256 0 }) =
      false := by
  decide +kernel

theorem test_ill_formed_flash : Instr.wellFormed (.flashRead (some (List.replicate 65537 0))) = false := by
  decide +kernel

/-! ## Small steps, against the reference's tables and worked examples -/

/-- Every word of the table's decoding: the table gives bits for no row. -/
theorem test_decode_gives_none : decodeTableWord 32 0x1234 = none := rfl

/-- 11: after a power-on reset with AUTOSTART high the sample is kept; the CU is in LOADING (R168, R165). -/
theorem test_power_on_reset :
    nextWith (exec (.powerOnReset true) busy)
      (fun t => t.loader.autostart && t.cu.state == .loading && (t.route 0).state == .free) = true := by
  decide +kernel

/-- R55: a control reset advances the generation of a live record. -/
theorem test_control_reset :
    nextWith (exec .controlReset busy)
      (fun t => (t.route 0).generation == 4 && (t.route 0).state == .free && (t.port 0).timeline == .a) = true := by
  decide +kernel

/-- R155: a ring reset outside a load leaves the CU in IDLE with command space 1023. -/
theorem test_ring_reset :
    nextWith (exec .ringReset (ringed busy .fault [0x00000018])) (fun t => t.windowRead 0x605 == 0x100 &&
      t.windowRead 0x604 == 1023) = true := by
  decide +kernel

/-- 10, worked example: a header of length 0 is BAD_LENGTH; the read index reads 0xFFFF. -/
theorem test_command_write_index :
    nextWith (exec (.commandWriteIndexWrite 3) (ringed busy .idle [0x00000001]))
      (fun t => t.cu.state == .fault && t.windowRead 0x601 == 0xFFFF && t.windowRead 0x604 == 0 &&
        t.windowRead 0x607 == 0x00010002) = true := by
  decide +kernel

/-- 10, worked example: ROUTE_READ whole at reply space 13 waits, and at 113 is due. -/
theorem test_reply_read_index :
    nextWith (exec (.replyReadIndexWrite 200)
        { ringed busy .waitReply [headerOf .routeRead [0], 0] with
          cu := { (ringed busy .waitReply [headerOf .routeRead [0], 0]).cu with replyWrite := 86, replyRead := 100 } })
      (fun t => t.cu.state == .takeDue && t.cu.replySpace == 113) = true := by
  decide +kernel

/-- R171: a write past the window's words is ignored, and one of a ring word is kept. -/
theorem test_control_window_write :
    nextWith (exec (.controlWindowWrite 0x3FF 7) busy) (fun t => t.windowRead 0x3FF == 7) = true ∧
      nextWith (exec (.controlWindowWrite 0x7FF 7) busy) (fun t => t.windowRead 0x7FF == 0) = true := by
  decide +kernel

/-- R172: a trim of 200 is taken as 99; the new route takes the lowest FREE record, index 1. -/
theorem test_route_open :
    replies busy .routeOpen [BitVec.ofNat 32 (2 + 256 * 1 + 16777216 * 200), 0, 0] 1 0x00030101
      (fun t => (t.route 1).setting.trim == 99 && (t.route 1).state == .priming) = true := by
  decide +kernel

/-- R58, check 5: a port with a live route gives PORT_TAKEN, 6. -/
theorem test_route_open_port_taken :
    replies busy .routeOpen [2, 0, 0] 0 (refusalHeader .routeOpen 6) (fun _ => true) = true := by
  decide +kernel

/-- R72: only the present trim is altered. -/
theorem test_route_alter :
    replies busy .routeAlter [0x00000830, 0x05000000, 0, 0] 0 (okHeader .routeAlter 4)
      (fun t => (t.route 0).setting.trim == 5 && (t.route 0).setting.holdLimit == 10) = true := by
  decide +kernel

/-- R70: a route with a pair is CLOSING, its generation advanced. -/
theorem test_route_close :
    replies busy .routeClose [0x30] 1 6 (fun t => (t.route 0).generation == 4 && (t.slot 34).state == .free &&
      (t.slot 33).state == .ready && (t.feed 2).routeCount == 0) = true := by
  decide +kernel

/-- 12, ROUTE_READ: word 17 has window count 3, settled, two slots, w 40 and w′ 40. -/
theorem test_route_read : replies busy .routeRead [0x30] 17 0x28280213 (fun _ => true) = true := by
  decide +kernel

/-- R68: a RUNNING route is HELD with its pair frozen. -/
theorem test_route_hold :
    replies busy .routeHold [0x30] 1 3 (fun t => (t.route 0).state == .held && (t.route 0).frozen) = true := by
  decide +kernel

/-- R69: a HELD route with 3 entries on a LOCKED feed runs again. -/
theorem test_route_release :
    replies (busyWith (fun r => { r with state := .held }) id) .routeRelease [0x30] 1 2 (fun _ => true) = true := by
  decide +kernel

/-- R74: a step of −30 from 25 stops at 0. -/
theorem test_route_trim :
    replies busy .routeTrim [0xE230] 1 0 (fun t => (t.route 0).setting.trim == 0) = true := by
  decide +kernel

/-- R169: an empty preset is refused with RANGE, 3. -/
theorem test_preset_open : replies busy .presetOpen [15] 0 (refusalHeader .presetOpen 3) (fun _ => true) = true := by
  decide +kernel

/-- 02, worked example: FEED_SET of H50I takes the feed to EMPTY (1) with E 138,240,000. -/
theorem test_feed_set :
    replies busy .feedSet [1, 0x1003, 2048] 2 138240000 (fun t => (t.feed 1).state == .empty) = true := by
  decide +kernel

/-- 02, worked example: the rate of E 138,242,767 is 49,999 mHz. -/
theorem test_feed_read :
    replies (busyWith id (fun f => { f with period := 138242767 })) .feedRead [2] 5 49999 (fun _ => true) = true := by
  decide +kernel

/-- R33: a constant of 0 is taken as 1. -/
theorem test_track_set : replies busy .trackSet [3] 1 0x00010003 (fun t => tget t.trackK 3 == 1) = true := by
  decide +kernel

/-- R117: a curve that falls is CURVE_INVALID, 10. -/
theorem test_profile_write :
    replies busy .profileWrite [4, 0x04030500, 0, 0, 0, 64] 0 (refusalHeader .profileWrite 10)
      (fun t => t.profile 4 == .empty) = true := by
  decide +kernel

/-- R118: profile 0 is a built-in curve that one live route names; its first points are 0, 4, 8 and 12. -/
theorem test_profile_read :
    replies busy .profileRead [0] 1 0x00010100 (fun t => tget t.cu.replyRing 2 == 0x0C080400) = true := by
  decide +kernel

/-- 01, worked example: TIMELINE_SET at tick 5,000,000 with H50I and 10:00:00:24. -/
theorem test_timeline_set :
    nextWith (exec (.timelineSet 5000000) (due (ringed State.reset .idle []) .timelineSet [0x0300, 0x0A000018]))
      (fun t => tget t.cu.replyRing 1 == 5540000 && t.timelineA.counter == 0 &&
        t.timelineA.nextTimecode == ⟨10, 0, 0, 24, false, false⟩ && t.timelineA.nextParity == .top) = true := by
  decide +kernel

/-- R13: one live route on timeline A, and ports 0 to 3. -/
theorem test_timeline_read : replies busy .timelineRead [0] 7 0x00000F01 (fun _ => true) = true := by
  decide +kernel

/-- R15: a port with a live route is PORT_IN_USE, 7; a free one moves. -/
theorem test_port_set :
    replies busy .portSet [0x100] 0 (refusalHeader .portSet 7) (fun _ => true) = true ∧
      replies busy .portSet [0x101] 0 (okHeader .portSet 1) (fun t => (t.port 1).timeline == .b) = true := by
  decide +kernel

/-- R123: the mute flag, with the live route's handle. -/
theorem test_port_mute :
    replies busy .portMute [0x100] 1 0x00300102 (fun t => (t.port 0).mute) = true := by
  decide +kernel

/-- R9: AUTO from a manual mode is MANUAL_LATCHED, 14, in a reply of two words. -/
theorem test_reference_set :
    replies { busy with reference := { busy.reference with mode := .manualExternal } } .referenceSet [0] 0
      (BitVec.ofNat 32 (18 + 256 * 0x5A + 65536 * 14 + 33554432)) (fun _ => true) = true := by
  decide +kernel

/-- 12: a feed view of feed 2 on timeline B. -/
theorem test_monitor_set :
    replies busy .monitorSet [0x00010202] 1 0x000000A2 (fun t => t.monitor.view == .feed 2 .b) = true := by
  decide +kernel

/-- R142: a new checker part is in HUNT with run 0. -/
theorem test_check_set :
    replies (busyWith (fun r => { r with checker := none }) id) .checkSet [0x130] 1 1 (fun _ => true) = true := by
  decide +kernel

/-- R159: EVENTS_TAKE of the device scope returns the pending and retired sets and empties them. -/
theorem test_events_take :
    replies { busy with device := { busy.device with events := 0x12, retired := 1 } } .eventsTake [2] 1 0x00010012
      (fun t => t.device.events == 0 && t.device.retired == 0) = true := by
  decide +kernel

/-- R161: a pending masked event with the enable on asserts the line. -/
theorem test_notify_set :
    replies (busyWith (fun r => { r with events := 0x10 }) id) .notifySet [0xFF, 0xF, 0x11F] 2 1
      (fun t => t.device.line) = true := by
  decide +kernel

/-- 12, DEVICE_READ: word 6 has route 0 in RUNNING with handle 0x30, word 16 feed 2 LOCKED, a slot WRITING and three
READY with hold sum 3 and pin sum 2. -/
theorem test_device_read :
    replies busy .deviceRead [] 6 0x00003002 (fun t => tget t.cu.replyRing 16 == 0x0080303B) = true := by
  decide +kernel

/-- R5, 01: in the 50 family a pulse after 1,069,199 ticks is bad and one after 1,069,200 is good. -/
theorem test_reference_pulse :
    nextWith (exec (.referencePulse 1069199) { busy with reference := { busy.reference with lastPulse := some 0 } })
      (fun t => t.reference.badPulses == 1) = true ∧
    nextWith (exec (.referencePulse 1069200) { busy with reference := { busy.reference with lastPulse := some 0 } })
      (fun t => t.reference.goodRun == 1) = true := by
  decide +kernel

/-- R7: MANUAL_EXTERNAL goes from LOCKED to HOLDOVER on an absence, with REF_CHANGE. -/
theorem test_reference_absence :
    nextWith (exec .referenceAbsence
        { busy with reference := { busy.reference with mode := .manualExternal, source := .locked, lastPulse := some 0 } })
      (fun t => t.reference.source == .holdover && t.device.events == 1) = true := by
  decide +kernel

/-- 01, worked example: the second boundary carries 10:00:00:24 pair 1 and the next timecode is 10:00:01:00. -/
theorem test_output_boundary :
    nextWith (exec (.outputBoundary .a)
        { busy with timelineA := { busy.timelineA with
            counter := 1, nextParity := .bottom, nextTimecode := ⟨10, 0, 0, 24, false, true⟩
            nextBoundary := some 6080000 } })
      (fun t => t.timelineA.counter == 2 && t.timelineA.nextParity == .top &&
        t.timelineA.nextTimecode == ⟨10, 0, 1, 0, false, false⟩ && t.timelineA.nextBoundary == some 6620000) = true := by
  decide +kernel

/-- R82 to R86: from φ 60,000 with e 0 and S 65,536, φ is 125,536 and e 98,286 − 125,536; position A is 1 and w is 59. -/
theorem test_output_boundary_steps :
    nextWith (exec (.outputBoundary .a) busy)
      (fun t => (t.route 0).phase == 125536 && (t.route 0).error == -27250 &&
        (t.route 0).pair == some { slots := .both 33 34, weight := 59, shaped := 59, curve := .curve linearPoints }) =
      true := by
  decide +kernel

/-- R113, R15: a port without a picture sends black in the standard of its interval, 720 columns in SD, whatever its
timeline's standard is by now. -/
theorem test_output_line :
    nextWith (exec (.outputLine (.port 7)) { busy with ports := tset busy.ports 7 (Port.reset .b .s625i) })
      (fun t => (t.port 7).lineOut.length == 720 && (t.port 7).lineOut.head? == some { luma := 64, chroma := 512 }) =
      true := by
  decide +kernel

/-- 02, worked example: a start 239,520 ticks after the last is a runt; one 420,000 after it truncates and is accepted. -/
theorem test_picture_start :
    nextWith (exec (.pictureStart 2 1239520 false) busy) (fun t => (t.feed 2).runts == 1 && (t.feed 2).nextSeq == 5) =
      true ∧
    nextWith (exec (.pictureStart 2 1420000 false) busy)
      (fun t => (t.feed 2).damaged == 1 && (t.feed 2).nextSeq == 6 && (t.feed 2).measurement == some 420000) = true := by
  decide +kernel

/-- R40, R18: line 0 of the picture in slot 35 is written at 35 × 8,388,608, and the line is counted. -/
theorem test_active_line :
    nextWith (exec (.activeLine 2 [{ luma := 0x3AB, chroma := 0x201 }])
        { busy with feedPorts := tset busy.feedPorts 2 { busyPort with lineCount := 0 } })
      (fun t => (t.feedPort 2).lineCount == 1 && Memory.readWord t.dram 293601280 == 0x3AB &&
        Memory.readWord t.dram 293601282 == 0x201) = true := by
  decide +kernel

/-- R19: a packet of family 0 is dropped. -/
theorem test_ancillary_packet :
    nextWith (exec (.ancillaryPacket 2 { packet with key := { family := 0, kind := 1 } }) busy)
      (fun t => (t.feedPort 2).packets.length == 1) = true ∧
    nextWith (exec (.ancillaryPacket 2 packet) busy) (fun t => (t.feedPort 2).packets.length == 2) = true := by
  decide +kernel

/-- R20: the first timecode of a picture is kept. -/
theorem test_picture_timecode :
    nextWith (exec (.pictureTimecode 2 ⟨1, 2, 3, 4, false, false⟩) busy)
      (fun t => (t.feedPort 2).timecode == some ⟨1, 2, 3, 4, false, false⟩) = true := by
  decide +kernel

/-- 02, worked example: a good picture of 540,120 ticks at K 64 moves E from 138,240,000 to 138,240,480; its slot is
READY in the route's window. -/
theorem test_picture_end :
    nextWith (exec (.pictureEnd 2) busy)
      (fun t => (t.feed 2).period == 138240480 && (t.slot 35).state == .ready && (t.slot 35).hold == 1 &&
        (t.route 0).window.length == 4) = true := by
  decide +kernel

/-- R26, R66: silence takes the feed to LOST and the route to STARVED. -/
theorem test_silence_expiry :
    nextWith (exec (.silenceExpiry 2) busy)
      (fun t => (t.feed 2).state == .lost && (t.route 0).state == .starved && (t.slot 34).state == .free) = true := by
  decide +kernel

/-- R163: a header whose Track pointer is 16 has the length word at 16 read next; a failed read stops the reading. -/
theorem test_flash_read :
    nextWith (exec (.flashRead (some ([0xD5C3, 1, 0, 16] ++ List.replicate 12 0xFFFF))) State.reset)
      (fun t => t.loader.stage == .length .track 16) = true ∧
    nextWith (exec (.flashRead none) State.reset) (fun t => t.loader.stage == .stopped .read) = true := by
  decide +kernel

/-- R170: a load whose first read failed ends with LOAD_FAIL (0x08), cause READ, and both timelines running. -/
theorem test_load_end :
    nextWith (exec (.loadEnd 0) { State.reset with loader := { State.reset.loader with stage := .stopped .read } })
      (fun t => t.device.events == 0x08 && t.loader.result.cause == some .read && t.cu.state == .idle &&
        t.timelineB.nextBoundary == some 450450) = true := by
  decide +kernel

/-- R165, R166: the Feed module's part of a load configures feed 0, and the load goes on with the Preset module. -/
theorem test_load_part :
    nextWith (step { State.reset with
        loader := { State.reset.loader with
          stage := .applying [.feed, .preset], bodies := [(.feed, [3, 0xFFFF, 4, 0, 0xFFFF])] } })
      (fun t => (t.feed 0).state == .empty && t.loader.stage == .applying [.preset] && t.loader.result.feedApplied == 1 &&
        t.loader.result.outcome == .none) = true := by
  decide +kernel

/-! ## Tables and worked examples of the reference -/

/-- R82: the base steps of the table, without and with a cadence lock. -/
theorem test_base_steps :
    plainStep (256 * 540000) 450450 = 54668 ∧ plainStep (256 * 1080000) 900900 = 54668 ∧
      plainStep (256 * 450450) 540000 = 78565 ∧ plainStep (256 * 540000) 1126125 = 136670 ∧
      plainStep (256 * 450450) 1126125 = 163840 ∧ lockedStep (256 * 450450) 1080000 5 4 = 125703 ∧
      lockedStep (256 * 450450) 1126125 5 2 = 65536 := by
  decide +kernel

/-- R119: the weights of the four built-in profiles. -/
theorem test_shaped_weights :
    [10, 21, 32, 53, 64].map (Profile.curve linearPoints).shape = [10, 21, 32, 53, 64] ∧
      [10, 21, 32, 53, 64].map (Profile.curve steepPoints).shape = [0, 1, 32, 64, 64] ∧
      [10, 21, 32, 53, 64].map (Profile.curve easedPoints).shape = [5, 17, 32, 59, 64] ∧
      [10, 21, 32, 53, 64].map Profile.snap.shape = [0, 0, 64, 64, 64] := by
  decide +kernel

/-- 07, worked example: the positions of lines 0, 100 and 242 of an S525I BOTTOM output in S625I fields. -/
theorem test_line_positions :
    [0, 100, 242].map (linePosition .s525i .bottom .s625i .top) = [9, 1906, 4592] ∧
      [0, 100, 242].map (linePosition .s525i .bottom .s625i .bottom) = [1, 1898, 4591] ∧
      linePosition .s625i .top .s525i .bottom 0 = 0 := by
  decide +kernel

/-- 07, worked example: the blend of 505 and 508, and the clamp of 990. -/
theorem test_blend : blendSample 17 505 508 = 506 ∧ blendSample 17 1000 963 = 990 ∧ legalChroma 990 = 960 := by
  decide +kernel

/-- R3: the examples of drop counting. -/
theorem test_timecode_advance :
    Standard.advance .h2997p ⟨0, 0, 59, 29, true, false⟩ = ⟨0, 1, 0, 2, true, false⟩ ∧
      Standard.advance .h2997p ⟨0, 9, 59, 29, true, false⟩ = ⟨0, 10, 0, 0, true, false⟩ ∧
      Standard.advance .h2997p ⟨23, 59, 59, 29, true, false⟩ = ⟨0, 0, 0, 0, true, false⟩ := by
  decide +kernel

/-! ## Witnesses: for every statement with hypotheses, what meets them -/

theorem witness_StepTakesFrontCommand :
    ({ busy with pending := [.ringReset] } : State).pending = [.ringReset] ∧ State.reset.pending = [] ∧
      State.reset.loader.stage = .header ∧ ({ State.reset.loader with stage := .opening [] } : Loader).stage = .opening [] :=
  ⟨rfl, rfl, rfl, rfl⟩

theorem busy_summary : busy.SummaryOk := by unfold State.SummaryOk; decide +kernel

theorem witness_ReplyIsWrittenWhole :
    (Reply.ok [7, 8]).payload.length ≤ 511 ∧ (command .routeTrim [0]).tag < 256 ∧ (command .routeTrim [0]).length < 256 ∧
      (Reply.ok [7, 8]).payload[1]? = some 8 ∧ (Reply.ok [7, 8]).payload.length + 1 ≤ 511 := by
  decide +kernel

theorem witness_RefusedCommandsChangeNothing :
    (due busy .routeTrim [0]).dueCommand = some (command .routeTrim [0]) ∧
      (due busy .referenceSet [3]).dueCommand = some (command .referenceSet [3]) := by
  decide +kernel

theorem witness_StaleHandlesAreRefused :
    ((due busy .routeTrim [0x31]).dueCommand = some (command .routeTrim [0x31]) ∧ namesRoute .routeTrim = true ∧
      bits (arg [0x31] 1) 0 8 = 0x31 ∧ (1 : RouteId).val = 0x31 % 16 ∧ (busy.route 1).state = .free) ∧
    ((due busy .eventsTake [0xF000]).dueCommand = some (command .eventsTake [0xF000]) ∧
      bits (arg [0xF000] 1) 0 8 = 0 ∧ bits (arg [0xF000] 1) 8 8 = 0xF0 ∧ (0 : RouteId).val = 0xF0 % 16 ∧
      (busy.route 0).generation.val ≠ 0xF0 / 16) ∧
    ((due (busyWith (fun r => { r with state := .closing }) id) .routeHold [0x30]).dueCommand =
        some (command .routeHold [0x30]) ∧
      ((busyWith (fun r => { r with state := .closing }) id).route 0).state = .closing) := by
  decide +kernel

theorem witness_ResetsRestoreTheBlocks : State.reset.cu.state = .loading ∧ busy.cu.state ≠ .loading := by decide +kernel

theorem witness_RingResetClearsTheRings :
    busy.SummaryOk ∧ bit 1 0 = true ∧ bit 1 1 = false ∧ (0x3FF : BitVec 11).toNat = (1023 : Fin 1024).val ∧
      (0x5FF : BitVec 11).toNat = 1024 + (511 : Fin 512).val ∧ 0x608 ≤ (0x608 : BitVec 11).toNat ∧
      (ringed busy .fault []).cu.state = .fault ∧ busy.cu.state = .idle ∧ busy.cu.fault = none ∧
      ({ busy.cu with fault := some { cause := .badLength, index := 1023, kind := 7, length := 255 } } :
        CommandUnit).fault = some { cause := .badLength, index := 1023, kind := 7, length := 255 } :=
  ⟨busy_summary, by decide +kernel⟩

/-- The states of the index-write statement's clauses: stopped, empty, of unknown kind, of bad length, short of words,
short of space, and due. -/
theorem witness_IndexWritesEvaluateTheRing :
    busy.SummaryOk ∧ State.reset.cu.state = .loading ∧ (ringed busy .fault []).cu.state = .fault ∧ busy.cu.held = 0 ∧
    ((ringed busy .idle [0x00020018]).cu.held ≠ 0 ∧
      kindOfCode (headerKind ((ringed busy .idle [0x00020018]).cu.word 0)) = none) ∧
    ((ringed busy .idle [0x00010007]).cu.held ≠ 0 ∧
      kindOfCode (headerKind ((ringed busy .idle [0x00010007]).cu.word 0)) = some .routeTrim ∧
      headerLength ((ringed busy .idle [0x00010007]).cu.word 0) < minLength .routeTrim ∧
      maxLength .routeTrim < headerLength ((ringed busy .idle [0x00030007]).cu.word 0)) ∧
    ((ringed busy .idle [0x00020007]).cu.held < headerLength ((ringed busy .idle [0x00020007]).cu.word 0) ∧
      minLength .routeTrim ≤ headerLength ((ringed busy .idle [0x00020007]).cu.word 0)) ∧
    (headerLength ((ringed busy .idle [0x00010017]).cu.word 0) ≤ (ringed busy .idle [0x00010017]).cu.held ∧
      largestReply .deviceRead ≤ (ringed busy .idle [0x00010017]).cu.replySpace ∧
      ({ (ringed busy .idle [0x00010017]).cu with replyRead := 64 }).replySpace < largestReply .deviceRead) := by
  exact ⟨busy_summary, by decide +kernel⟩

theorem witness_WindowWritesReplaceRingWords :
    busy.SummaryOk ∧ (0x3FF : BitVec 11).toNat = (1023 : Fin 1024).val ∧
      (0x400 : BitVec 11).toNat = 1024 + (0 : Fin 512).val ∧ (0x5FF : BitVec 11).toNat = 1024 + (511 : Fin 512).val ∧
      1536 ≤ (0x601 : BitVec 11).toNat ∧ 1536 ≤ (0x7FF : BitVec 11).toNat ∧ bit 4 0 = false ∧ bit 4 1 = false ∧
      bit 2 1 = true ∧ bit 3 1 = true ∧ State.reset.cu.state = .loading ∧ busy.cu.state ≠ .loading :=
  ⟨busy_summary, by decide +kernel⟩

/-- The busy part with presets 3 filled. -/
def presetPart : State :=
  { busy with presets := tset busy.presets 3 (some { request := { request with port := 1 }, startOrder := 0 }) }

/-- The words of an open of feed 2 on port 1. -/
def openWords : List Word := [0x19000102, 0, 0x0014000A]

theorem witness_OpensAreCheckedInOrder :
    ((due busy .routeOpen [9, 0, 0]).dueCommand = some (command .routeOpen [9, 0, 0]) ∧
      (requestOfWords [9, 0, 0]).feed = 9 ∧
      firstFailure [(decide (∃ i, (busy.route i).state = .free), .noRoute), (decide ((9 : Nat) < 8), .range)] = .range) ∧
    ((due presetPart .presetOpen [3]).dueCommand = some (command .presetOpen [3]) ∧ bits (arg [3] 1) 0 8 < 16 ∧
      tget presetPart.presets (Fin.ofNat 16 (bits (arg [3] 1) 0 8)) =
        some { request := { request with port := 1 }, startOrder := 0 }) ∧
    ((due busy .presetOpen [16]).dueCommand = some (command .presetOpen [16]) ∧ 16 ≤ bits (arg [16] 1) 0 8 ∧
      (due busy .presetOpen [15]).dueCommand = some (command .presetOpen [15]) ∧ tget busy.presets 15 = none) := by
  decide +kernel

theorem witness_RouteOpenSetsTheRecord :
    (due busy .routeOpen openWords).dueCommand = some (command .routeOpen openWords) ∧
      (due presetPart .presetOpen [3]).dueCommand = some (command .presetOpen [3]) ∧
      (busy.route 1).state = .free ∧ (∀ j, j < (1 : RouteId) → (busy.route j).state ≠ .free) ∧
      (requestOfWords openWords).feed < 8 ∧ (busy.feed (requestOfWords openWords).feedId).standard = some .h50i ∧
      (requestOfWords openWords).port < 8 ∧
      (∀ j, (busy.route j).state.live = true → (busy.route j).port ≠ (requestOfWords openWords).portId) ∧
      Standard.h50i.family = (busy.portStandard (requestOfWords openWords).portId).family ∧
      (requestOfWords openWords).profile < 32 ∧ busy.profile (requestOfWords openWords).profileId ≠ .empty ∧
      (requestOfWords openWords).mapCount ≤ 8 ∧
      (requestOfWords openWords).mapCount ≤ (requestOfWords openWords).entries.length ∧
      (requestOfWords openWords).cadence ≤ 1 ∧ (requestOfWords openWords).timecode ≤ 2 ∧
      (requestOfWords openWords).unmapped ≤ 2 := by
  decide +kernel

/-- The words of a ROUTE_ALTER of every field but the feed and the port, with one map entry. -/
def alterWords : List Word := [0x0003FC30, 0x63010000, 0x00000129, 0x00020001, 0x00010207, 0x00000308]

theorem witness_RouteAlterAppliesPresentFields :
    (due busy .routeAlter alterWords).dueCommand = some (command .routeAlter alterWords) ∧
      busy.handleValid (bits (arg alterWords 1) 0 8) = true ∧ handleIndex (bits (arg alterWords 1) 0 8) = 0 ∧
      alterStatus busy (alterFlags (arg alterWords 1)) (requestOfWords (alterWords.drop 1)) = .ok ∧
      alterStatus busy (alterFlags 0x00000530) (requestOfWords [0x20000000, 0, 0]) = .fixed ∧
      alterStatus busy (alterFlags 0x00000430) (requestOfWords [0x00200000, 0, 0]) = .range ∧
      alterStatus busy (alterFlags 0x00000430) (requestOfWords [0x00040000, 0, 0]) = .profileEmpty ∧
      alterStatus busy (alterFlags 0x00010030) (requestOfWords [0, 0x00000900, 0]) = .range ∧
      alterStatus busy (alterFlags 0x00010030) (requestOfWords [0, 0, 0, 0x107, 0, 0x107, 0]) ≠ .stale ∧
      alterStatus busy (alterFlags 0x00020030) (requestOfWords [0, 0x00000030, 0]) = .range := by
  decide +kernel

/-- A route command with handle 0x30 is due in the busy part, and the handle is valid there and names route 0. -/
theorem witness_RouteCommands :
    busy.handleValid (bits (arg [0x130] 1) 0 8) = true ∧ handleIndex (bits (arg [0x130] 1) 0 8) = 0 ∧
      (due busy .routeClose [0x130]).dueCommand = some (command .routeClose [0x130]) ∧
      (due busy .routeRead [0x130]).dueCommand = some (command .routeRead [0x130]) ∧
      (due busy .routeHold [0x130]).dueCommand = some (command .routeHold [0x130]) ∧
      (due busy .routeRelease [0x130]).dueCommand = some (command .routeRelease [0x130]) := by
  decide +kernel

theorem witness_RouteCloseGivesBackFeedAndPort :
    (due busy .routeClose [0x130]).dueCommand = some (command .routeClose [0x130]) ∧
      busy.handleValid (bits (arg [0x130] 1) 0 8) = true :=
  ⟨witness_RouteCommands.2.2.1, witness_RouteCommands.1⟩

theorem witness_RouteReadCarriesTheRecord :
    (due busy .routeRead [0x130]).dueCommand = some (command .routeRead [0x130]) ∧
      busy.handleValid (bits (arg [0x130] 1) 0 8) = true ∧
      (busy.route 0).window[2]? = some { slot := 34, seq := 3, admitNumber := 2 } ∧ (busy.route 0).window[3]? = none :=
  ⟨witness_RouteCommands.2.2.2.1, witness_RouteCommands.1, by decide +kernel⟩

theorem witness_HoldAndReleaseMoveTheRoute :
    (due busy .routeHold [0x130]).dueCommand = some (command .routeHold [0x130]) ∧
      (due busy .routeRelease [0x130]).dueCommand = some (command .routeRelease [0x130]) ∧
      busy.handleValid (bits (arg [0x130] 1) 0 8) = true :=
  ⟨witness_RouteCommands.2.2.2.2.1, witness_RouteCommands.2.2.2.2.2, witness_RouteCommands.1⟩

/-- Steps −99, 99, −100 and 100, and a handle that is not valid. -/
theorem witness_RouteTrimMovesTheTrim :
    (due busy .routeTrim [0x9D30]).dueCommand = some (command .routeTrim [0x9D30]) ∧
      busy.handleValid 0x30 = true ∧ busy.handleValid 0x31 = false ∧
      bits (arg [0x9D30] 1) 0 8 = 0x30 ∧ signed8 (bits (arg [0x9D30] 1) 8 8) = -99 ∧
      signed8 (bits (arg [0x6330] 1) 8 8) = 99 ∧ signed8 (bits (arg [0x9C30] 1) 8 8) = -100 ∧
      signed8 (bits (arg [0x6430] 1) 8 8) = 100 ∧
      ((0 : Nat) : Int) = max 0 (min 99 (((busy.route 0).setting.trim : Int) + -99)) := by
  decide +kernel

theorem witness_CheckSetSwitchesTheChecker :
    (due busy .checkSet [0x0130]).dueCommand = some (command .checkSet [0x0130]) ∧
      (due busy .checkSet [0x0030]).dueCommand = some (command .checkSet [0x0030]) ∧
      (due busy .checkSet [0x0230]).dueCommand = some (command .checkSet [0x0230]) ∧
      (due busy .checkSet [0x0131]).dueCommand = some (command .checkSet [0x0131]) ∧
      busy.handleValid 0x30 = true ∧ busy.handleValid 0x31 = false ∧ bits (arg [0x0230] 1) 8 8 = 2 ∧
      (busy.route 0).checker = some { state := .hunt, run := 7, results := [], previous := some 0 } ∧
      ((busyWith (fun r => { r with checker := none }) id).route 0).checker = none := by
  decide +kernel

/-- A refused FEED_SET, one on the standard that stands, and one with another standard on a feed without routes. -/
theorem witness_FeedSetConfiguresTheFeed :
    (due busy .feedSet [8, 3, 0]).dueCommand = some (command .feedSet [8, 3, 0]) ∧
      firstFailure [(decide ((feedRequestOfWords [8, 3, 0]).feed < 8), .range)] = .range ∧
      (due busy .feedSet [2, 0x4103, 0]).dueCommand = some (command .feedSet [2, 0x4103, 0]) ∧
      (feedRequestOfWords [2, 0x4103, 0]).trackSlot = 4 ∧ (feedRequestOfWords [2, 0x4103, 0]).profile = 1 ∧
      standardOfCode (feedRequestOfWords [2, 0x4103, 0]).standard = (busy.feed 2).standard ∧
      (due (busyWith id (fun f => { f with routeCount := 0 })) .feedSet [2, 10, 0]).dueCommand =
        some (command .feedSet [2, 10, 0]) ∧
      standardOfCode (feedRequestOfWords [2, 10, 0]).standard ≠ (busy.feed 2).standard ∧
      ((busyWith id (fun f => { f with routeCount := 0 })).feed 2).routeCount = 0 := by
  decide +kernel

theorem witness_FeedReadCarriesTheRecord :
    (due busy .feedRead [8]).dueCommand = some (command .feedRead [8]) ∧ bits (arg [8] 1) 0 8 = 8 ∧
      (due busy .feedRead [0x107]).dueCommand = some (command .feedRead [0x107]) ∧ bits (arg [0x107] 1) 0 8 = 7 := by
  decide +kernel

theorem witness_TrackSetSetsTheConstant :
    (due busy .trackSet [5]).dueCommand = some (command .trackSet [5]) ∧
      (due busy .trackSet [1]).dueCommand = some (command .trackSet [1]) ∧
      (due busy .trackSet [2]).dueCommand = some (command .trackSet [2]) ∧
      (due busy .trackSet [4]).dueCommand = some (command .trackSet [4]) ∧ bits (arg [4] 1) 0 8 = 4 := by
  decide +kernel

theorem witness_ProfileWriteReplacesTheProfile :
    (due busy .profileWrite [0x104]).dueCommand = some (command .profileWrite [0x104]) ∧
      (due busy .profileWrite [31, 0, 0, 0, 0, 64]).dueCommand = some (command .profileWrite [31, 0, 0, 0, 0, 64]) := by
  decide +kernel

theorem witness_ProfileReadCarriesTheProfile :
    (due busy .profileRead [32]).dueCommand = some (command .profileRead [32]) ∧
      (due busy .profileRead [2]).dueCommand = some (command .profileRead [2]) ∧
      busy.profile 2 = .curve easedPoints ∧ (due busy .profileRead [3]).dueCommand = some (command .profileRead [3]) ∧
      busy.profile 3 = .snap := by
  decide +kernel

/-- A TIMELINE_SET of a timeline in use, one accepted, one of no timeline and one of no standard. -/
theorem witness_TimelineSetRestartsTheTimeline :
    (due busy .timelineSet [0x0300]).dueCommand = some (command .timelineSet [0x0300]) ∧
      timelineOfCode (bits (arg [0x0300] 1) 0 8) = some .a ∧ standardOfCode (bits (arg [0x0300] 1) 8 8) = some .h50i ∧
      ((busy.route 0).state.live = true ∧ (busy.port (busy.route 0).port).timeline = .a) ∧
      (due busy .timelineSet [0x0A01, 0]).dueCommand = some (command .timelineSet [0x0A01, 0]) ∧
      timelineOfCode (bits (arg [0x0A01, 0] 1) 0 8) = some .b ∧
      (∀ i, (busy.route i).state.live = true → (busy.port (busy.route i).port).timeline ≠ .b) ∧
      (due busy .timelineSet [0x0302]).dueCommand = some (command .timelineSet [0x0302]) ∧
      timelineOfCode (bits (arg [0x0302] 1) 0 8) = none ∧
      (due busy .timelineSet [0x0B01]).dueCommand = some (command .timelineSet [0x0B01]) ∧
      standardOfCode (bits (arg [0x0B01] 1) 8 8) = none := by
  decide +kernel

theorem witness_TimelineReadCarriesTheTimeline :
    (due busy .timelineRead [2]).dueCommand = some (command .timelineRead [2]) ∧ 1 < bits (arg [2] 1) 0 8 ∧
      (due busy .timelineRead [0x100]).dueCommand = some (command .timelineRead [0x100]) ∧
      bits (arg [0x100] 1) 0 8 = 0 ∧ (due busy .timelineRead [1]).dueCommand = some (command .timelineRead [1]) ∧
      bits (arg [1] 1) 0 8 = 1 := by
  decide +kernel

/-- PORT_SET in use and free; PORT_MUTE refused, of a port with a live route, and of one without. -/
theorem witness_PortSetAndPortMuteSetThePort :
    (due busy .portSet [0x100]).dueCommand = some (command .portSet [0x100]) ∧
      (due busy .portSet [0x107]).dueCommand = some (command .portSet [0x107]) ∧
      (due busy .portMute [8]).dueCommand = some (command .portMute [8]) ∧ bits (arg [8] 1) 0 8 = 8 ∧
      (due busy .portMute [0x200]).dueCommand = some (command .portMute [0x200]) ∧ bits (arg [0x200] 1) 8 8 = 2 ∧
      (due busy .portMute [0x100]).dueCommand = some (command .portMute [0x100]) ∧
      ((busy.route 0).state.live = true ∧ (busy.route 0).port = 0) ∧
      (due busy .portMute [7]).dueCommand = some (command .portMute [7]) ∧
      (∀ i, (busy.route i).state.live = true → (busy.route i).port ≠ 7) := by
  decide +kernel

theorem witness_ReferenceSetLatchesTheMode :
    (due busy .referenceSet [0]).dueCommand = some (command .referenceSet [0]) ∧
      (due busy .referenceSet [1]).dueCommand = some (command .referenceSet [1]) ∧
      (due busy .referenceSet [2]).dueCommand = some (command .referenceSet [2]) ∧
      (due busy .referenceSet [3]).dueCommand = some (command .referenceSet [3]) ∧ bits (arg [3] 1) 0 8 = 3 := by
  decide +kernel

/-- A first pulse, good pulses at both ends of the range, bad pulses beside them, and a last pulse to be lost. -/
theorem witness_ReferencePulsesAreJudged :
    busy.reference.lastPulse = none ∧
      ({ busy.reference with lastPulse := some 5 } : Reference).lastPulse.isSome ∧
      (1080000 - 1080000 / 100 ≤ ((1069205 : Tick) - 5).toNat ∧ ((1090805 : Tick) - 5).toNat ≤ 1080000 + 1080000 / 100) ∧
      ((1069204 : Tick) - 5).toNat < 1080000 - 1080000 / 100 ∧
      1080000 + 1080000 / 100 < ((1090806 : Tick) - 5).toNat := by
  decide +kernel

/-- Refused views, the view that stands, and a port and a feed view. -/
theorem witness_MonitorSetChangesTheView :
    (due busy .monitorSet [3]).dueCommand = some (command .monitorSet [3]) ∧
      (due busy .monitorSet [0x801]).dueCommand = some (command .monitorSet [0x801]) ∧
      (due busy .monitorSet [0x20002]).dueCommand = some (command .monitorSet [0x20002]) ∧
      (due busy .monitorSet [0]).dueCommand = some (command .monitorSet [0]) ∧ busy.monitor.view = .off ∧
      (due busy .monitorSet [0x701]).dueCommand = some (command .monitorSet [0x701]) ∧
      (due busy .monitorSet [0x10702]).dueCommand = some (command .monitorSet [0x10702]) ∧
      timelineOfCode (bits (arg [0x10702] 1) 16 8) = some .b := by
  decide +kernel

theorem witness_EventsTakeAndNotifySet :
    (due busy .eventsTake [3]).dueCommand = some (command .eventsTake [3]) ∧
      (due busy .eventsTake [0x801]).dueCommand = some (command .eventsTake [0x801]) ∧
      (due busy .eventsTake [0x3000]).dueCommand = some (command .eventsTake [0x3000]) ∧
      busy.handleValid (bits (arg [0x3000] 1) 8 8) = true ∧
      (due busy .eventsTake [0x701]).dueCommand = some (command .eventsTake [0x701]) ∧
      (due busy .eventsTake [2]).dueCommand = some (command .eventsTake [2]) ∧
      (due busy .notifySet [0, 0, 0x200]).dueCommand = some (command .notifySet [0, 0, 0x200]) ∧
      bits (arg [0, 0, 0x200] 3) 8 8 = 2 ∧
      (due busy .notifySet [0, 0, 0x100]).dueCommand = some (command .notifySet [0, 0, 0x100]) ∧
      bits (arg [0, 0, 0x100] 3) 8 8 = 1 := by
  decide +kernel

theorem witness_DeviceReadCarriesThePart : (due busy .deviceRead []).dueCommand = some (command .deviceRead []) := by
  decide +kernel

/-- The busy part with route 0 STARVED, one boundary short of its retire limit of 20. -/
def retiringPart : State := busyWith (fun r => { r with state := .starved, window := [], lapse := 19 }) id

/-- A stopped and a running timeline, and a part whose route 0 alone is retired at the boundary. -/
theorem witness_BoundaryAdvancesTheTimeline :
    (State.reset.timeline .a).state = .stopped ∧ (busy.timeline .a).state = .running ∧
      (busy.timeline .b).state = .running ∧ (retiringPart.timeline .a).state = .running ∧
      ∀ i : RouteId, decide (i = 0) = true ↔ (retiringPart.port (retiringPart.route i).port).timeline = .a ∧
        ((retiringPart.route i).state = .starved ∨ (retiringPart.route i).state = .lapsed) ∧
        ∃ l, (retiringPart.route i).setting.retireLimit = some l ∧ l ≤ min 65535 ((retiringPart.route i).lapse + 1) := by
  refine ⟨by decide +kernel, by decide +kernel, by decide +kernel, by decide +kernel, fun i => ?_⟩
  have free : ∀ i : RouteId, i ≠ 0 → (retiringPart.route i).state = .free := by decide +kernel
  by_cases h : i = 0
  · subst h
    exact ⟨fun _ => ⟨by decide +kernel, by decide +kernel, 20, by decide +kernel, by decide +kernel⟩,
      fun _ => by decide⟩
  · simp [h, free i h]

/-- R64, R158: the retirement joins the retired set and raises AUTO_RETIRE alone. -/
theorem test_retirement_in_the_device_scope :
    nextWith (exec (.outputBoundary .a) retiringPart) (fun t =>
      t.device.retired == 1 && t.device.events == 0x10 && t.device.routeMask == retiringPart.device.routeMask &&
        (t.route 0).state == .free) = true := by
  decide +kernel

/-- Records in each state that the statement's clauses name, at limits met and not met. -/
theorem witness_BoundaryMovesTheRoutes :
    (busy.timeline .a).state = .running ∧ (busy.port (busy.route 0).port).timeline = .a ∧
      (busy.port (busy.route 0).port).timeline ≠ .b ∧ (busy.route 1).state = .free ∧
      ((busyWith (fun r => { r with state := .priming }) id).route 0).state = .priming ∧
      ((busyWith (fun r => { r with state := .held }) id).route 0).state = .held ∧
      2 ≤ ((busyWith (fun r => { r with state := .held }) id).route 0).window.length ∧
      ((busyWith (fun r => { r with state := .held, window := [] }) id).route 0).window.length < 2 ∧
      ((busyWith (fun r => { r with state := .closing }) id).route 0).state = .closing ∧
      ((busyWith (fun r => { r with state := .starved, lapse := 19 }) id).route 0).setting.retireLimit = some 20 ∧
      ((busyWith (fun r => { r with state := .starved, lapse := 9 }) id).route 0).setting.holdLimit = 10 ∧
      ((busyWith (fun r => { r with state := .lapsed, lapse := 11 }) id).route 0).state = .lapsed := by
  decide +kernel

/-- A RUNNING route with three entries and a checker part about to find SYNC, and one locked on F23. -/
theorem witness_BoundaryStepsTheRunningRoutes :
    (busy.timeline .a).state = .running ∧ (busy.route 0).state = .running ∧
      (busy.port (busy.route 0).port).timeline = .a ∧ (busy.route 0).window.length = 3 ∧ (busy.route 0).lock = none ∧
      ((busyWith (fun r => { r with
        cadence := some { history := [], lock := some { pattern := .f23, position := 4 } } }) id).route 0).lock =
        some { pattern := .f23, position := 4 } ∧
      (busy.route 0).checker = some { state := .hunt, run := 7, results := [], previous := some 0 } ∧
      ((busyWith (fun r => { r with checker := none }) id).route 0).checker = none ∧
      (decide (((1 : BitVec 32) - 0).toNat ≤ (65536 + 65535) / 65536 + 1)) = true := by
  decide +kernel

theorem busy_counts : busy.CountsOk := ⟨by decide +kernel, by decide +kernel⟩

theorem witness_BoundaryDecidesThePorts :
    (busy.timeline .a).state = .running ∧ busy.CountsOk ∧ (busy.port 7).timeline ≠ .a ∧ (busy.port 0).timeline = .a ∧
      (busy.port 1).timeline = .a ∧
      nextWith (exec (.outputBoundary .a) busy)
        (fun t => (t.route 0).state.live && (t.route 0).port == 0 && (t.route 0).pair.isSome &&
          (List.finRange 16).all (fun i => !((t.route i).state.live && (t.route i).port == 1))) = true ∧
      nextWith (exec (.outputBoundary .a)
          (busyWith (fun r => { r with state := .lapsed, pair := none, lapse := 11 }) id))
        (fun t => (t.route 0).state.live && (t.route 0).state == .lapsed) = true ∧
      nextWith (exec (.outputBoundary .a) (busyWith (fun r => { r with state := .held }) id))
        (fun t => (t.route 0).state.live && (t.route 0).state == .held && (t.route 0).pair.isSome) = true ∧
      (busyWith (fun r => { r with state := .held }) id).CountsOk :=
  ⟨by decide +kernel, busy_counts, by decide +kernel, by decide +kernel, by decide +kernel, by decide +kernel,
    by decide +kernel, by decide +kernel, ⟨by decide +kernel, by decide +kernel⟩⟩

/-- The monitor on a feed view with a latest of the timeline's family and of the other, on a port view and off. -/
theorem witness_BoundaryDecidesTheMonitor :
    (busy.timeline .a).state = .running ∧ (busy.timeline .b).state = .running ∧ busy.monitor.view = .off ∧
      ({ busy with monitor := { busy.monitor with view := .port 0 } } : State).monitor.view = .port 0 ∧
      (busy.port 0).timeline = .a ∧ (busy.port 0).timeline ≠ .b ∧
      ({ busy with monitor := { busy.monitor with view := .feed 2 .a, latest := some 34 } } : State).monitor.latest =
        some 34 ∧
      (busy.slot 34).standard = some .h50i ∧ Standard.h50i.family = (busy.timeline .a).standard.family ∧
      Standard.s625i.family ≠ (busy.timeline .a).standard.family := by
  decide +kernel

/-- A picture in progress of the busy route. -/
def picture : Picture :=
  { kind := .live, slots := .onlyA 32, weight := 0, shaped := 0, curve := none, standard := .h50i, parity := .top
    clipped := false, nextLine := 539 }

/-- R104, R112: a clamped sample of a REPEAT sets its clipped flag and counts nothing. -/
theorem test_clipped_repeat :
    (busyRoute.produce { picture with kind := .repeated } true).picture =
        some { picture with kind := .repeated, clipped := true, nextLine := 540 } ∧
      (busyRoute.produce { picture with kind := .repeated } true).counters.clips = 0 ∧
      (busyRoute.produce picture true).counters.clips = 1 := by
  decide +kernel

/-- A port without a picture, one with its last line left, and the monitor with and without a line left; an empty DRAM
reads 0, which is clamped. -/
theorem witness_OutputLineProducesALine :
    (∀ i, (busy.route i).picture = none) ∧ (busy.route 0).state ≠ .free ∧ (busy.route 0).port = 0 ∧
      ((busyWith (fun r => { r with picture := some picture }) id).route 0).picture = some picture ∧
      (∀ j, j < (0 : RouteId) → (busy.route j).state ≠ .free → (busy.route j).port ≠ 0) ∧
      blendPel busy.dram busy.slots picture 539 1919 = (0, 0) ∧ busy.monitor.content = .black ∧
      ({ busy.monitor with content := .picture, picture := some picture } : Monitor).picture = some picture ∧
      picture.nextLine < picture.standard.lines ∧
      ({ picture with nextLine := 540 } : Picture).standard.lines ≤ ({ picture with nextLine := 540 } : Picture).nextLine := by
  decide +kernel

/-- An accepted start that is stored in slot 35, one that finds no FREE slot, and one of a feed without a taker. -/
theorem witness_AcceptedStartsAreTaken :
    ((busyWith id restingFeed).feed 2).standard = some .h50i ∧ ((busyWith id restingFeed).feed 2).inFlight = false ∧
      ((busyWith id restingFeed).feed 2).lastStart.map (fun last => (1540120 : Tick) - last) = some 540120 ∧
      3 * Standard.h50i.nominal / 4 ≤ (540120 : Tick).toNat ∧ 3 * Standard.h50i.nominal / 4 ≤ (405000 : Tick).toNat ∧
      ((busyWith id restingFeed).route 0).feed = 2 ∧ ((busyWith id restingFeed).route 0).state = .running ∧
      ((36 : SlotId).val / 16 = (2 : FeedId).val ∧ (busy.slot 36).state = .free ∧
        ∀ j : SlotId, j < 36 → j.val / 16 = (2 : FeedId).val → (busy.slot j).state ≠ .free) ∧
      (∀ j : SlotId, j.val / 16 = (2 : FeedId).val →
        (({ busy with slots := busy.slots.map (fun x => { x with state := .ready }) } : State).slot j).state ≠ .free) ∧
      (∀ i, ((busyWith (fun r => { r with feed := 3 }) restingFeed).route i).state ≠ .free →
        ((busyWith (fun r => { r with feed := 3 }) restingFeed).route i).feed ≠ 2) := by
  decide +kernel

/-- A feed record right after reset obeys its laws. -/
theorem reset_feed_obeys : Feed.reset.RecordOk := by
  constructor <;> simp [Feed.reset]

/-- The busy feed obeys its laws. -/
theorem busy_feed_obeys : busyFeed.RecordOk := by
  constructor <;> simp [busyFeed, Feed.reset, Standard.nominal]

theorem busy_feeds : busy.FeedsOk := by
  intro f
  have h : ∀ f, busy.feed f = Feed.reset ∨ busy.feed f = busyFeed := by decide +kernel
  rcases h f with h | h <;> rw [h]
  · exact reset_feed_obeys
  · exact busy_feed_obeys

/-- Feed 2 in ACQUIRE after seven bad pictures. -/
def failingFeed (f : Feed) : Feed := { f with state := .acquire, goodRun := 0, badRun := 7 }

theorem failing_feeds : (busyWith id failingFeed).FeedsOk := by
  intro f
  have h : ∀ f, (busyWith id failingFeed).feed f = Feed.reset ∨ (busyWith id failingFeed).feed f = failingFeed busyFeed := by
    decide +kernel
  rcases h f with h | h <;> rw [h]
  · exact reset_feed_obeys
  · constructor <;> simp [failingFeed, busyFeed, Feed.reset, Standard.nominal]

/-- The busy part with a picture in flight that is not stored and no FREE slot. -/
def fullPart : State :=
  { busyWith id (fun f => { f with writing := none }) with
    slots := busySlots.map (fun x => { x with state := .ready }) }

theorem full_feeds : fullPart.FeedsOk := by
  intro f
  have h : ∀ f, fullPart.feed f = Feed.reset ∨ fullPart.feed f = { busyFeed with writing := none } := by decide +kernel
  rcases h f with h | h <;> rw [h]
  · exact reset_feed_obeys
  · constructor <;> simp [busyFeed, Feed.reset, Standard.nominal]

/-- A start of a feed without a standard, a runt, and starts that truncate the picture in slot 35: one stored in the slot
handed back, one that takes the feed to MISMATCH, and one, of a picture not stored, that finds no FREE slot. -/
theorem witness_RuntsAndTruncations :
    busy.SummaryOk ∧ busy.FeedsOk ∧ (busy.feed 0).standard = none ∧ (busy.feed 2).standard = some .h50i ∧
      (busy.feed 2).lastStart = some 1000000 ∧ ((1404999 : Tick) - 1000000).toNat < 3 * Standard.h50i.nominal / 4 ∧
      (busy.feed 2).inFlight = true ∧ 3 * Standard.h50i.nominal / 4 ≤ ((1405000 : Tick) - 1000000).toNat ∧
      (busy.feed 2).writing = some 35 ∧ (busyWith id failingFeed).FeedsOk ∧
      (((busyWith id failingFeed).feed 2).applyVerdict .h50i .bad).state = .mismatch ∧ (busy.route 0).state = .running ∧
      ((busy.feed 2).applyVerdict .h50i .bad).state = .locked ∧ (busy.route 0).feed = 2 ∧
      (∀ j : SlotId, j < 35 → ¬(j.val / 16 = (2 : FeedId).val ∧
        ((busy.slot j).state = .free ∨ (busy.feed 2).writing = some j))) ∧
      fullPart.FeedsOk ∧ fullPart.feed 2 = { busy.feed 2 with writing := none } ∧ (fullPart.route 0) = busy.route 0 ∧
      (∀ j : SlotId, ¬(j.val / 16 = (2 : FeedId).val ∧
        ((fullPart.slot j).state = .free ∨ (fullPart.feed 2).writing = some j))) :=
  ⟨busy_summary, busy_feeds, by decide +kernel, by decide +kernel, by decide +kernel, by decide +kernel,
    by decide +kernel, by decide +kernel, by decide +kernel, failing_feeds, by decide +kernel, by decide +kernel,
    by decide +kernel, by decide +kernel, by decide +kernel, full_feeds, by decide +kernel⟩

/-- R24, R42, R43: what becomes of the three truncating starts of the witness. -/
theorem test_truncating_starts :
    nextWith (exec (.pictureStart 2 1540120 true) busy) (fun t =>
        (t.feed 2).writing == some 35 && (t.slot 35).seq == 5 && (t.slot 35).state == .writing &&
          (t.feedPort 2).lineCount == 0 && (t.feed 2).events == 0x4) = true ∧
      nextWith (exec (.pictureStart 2 1540120 true) (busyWith id failingFeed)) (fun t =>
        (t.feed 2).writing == none && (t.slot 35).state == .free && (t.feed 2).events == 0x5) = true ∧
      nextWith (exec (.pictureStart 2 1540120 true) fullPart) (fun t =>
        (t.feed 2).writing == none && (t.feed 2).overruns == 1 && (t.feed 2).events == 0x6) = true := by
  decide +kernel

/-- Feeds in each state, on both sides of the fourth good, the eighth bad and the third rejected picture. -/
theorem witness_VerdictsDriveTheFeedState :
    (({ busyFeed with state := .acquire, goodRun := 2 } : Feed).state = .acquire ∧ (2 : Nat) < 3) ∧
      (({ busyFeed with state := .acquire, goodRun := 3 } : Feed).state = .acquire ∧ 3 ≤ (3 : Nat)) ∧
      (({ busyFeed with state := .acquire, badRun := 6 } : Feed).badRun < 7) ∧
      (7 ≤ ({ busyFeed with state := .acquire, badRun := 7 } : Feed).badRun) ∧ busyFeed.state = .locked ∧
      ({ busyFeed with rejectRun := 1 } : Feed).rejectRun < 2 ∧ 2 ≤ ({ busyFeed with rejectRun := 2 } : Feed).rejectRun ∧
      ({ busyFeed with state := .mismatch } : Feed).state = .mismatch := by
  decide +kernel

/-- A port that frames no picture, and one in its picture before, at and past its last line. -/
theorem witness_PicturesArriveAtTheirPorts :
    (busy.feed 0).standard = none ∧ (busy.feed 0).inFlight = false ∧ (busy.feed 2).standard = some .h50i ∧
      (busy.feed 2).inFlight = true ∧ (busy.feedPort 2).framing = .accepted ∧ (busy.feedPort 2).lineCount = 540 ∧
      Standard.h50i.lines ≤ 540 ∧ (busy.feed 2).writing = some 35 ∧ 539 < Standard.h50i.lines ∧
      ([{ luma := 0x3AB, chroma := 0x201 }] : List Pel)[0]? = some { luma := 0x3AB, chroma := 0x201 } := by
  decide +kernel

/-- Ends that close a picture with each verdict: good at both ends of the window, bad outside it or with a wrong line
count, neutral without a measurement. -/
theorem witness_PictureEndsGetTheirVerdict :
    busy.SummaryOk ∧ (busy.feed 0).inFlight = false ∧ (busy.feed 2).standard = some .h50i ∧
      (busy.feed 2).inFlight = true ∧ (busy.feedPort 2).framing = .accepted ∧
      (busy.feedPort 2).lineCount = Standard.h50i.lines ∧ (busy.feed 2).measurement = some 540120 ∧
      verdictOf .h50i 540 (some 506250) = .good ∧ verdictOf .h50i 540 (some 573750) = .good ∧
      verdictOf .h50i 540 (some 506249) = .bad ∧ verdictOf .h50i 540 (some 573751) = .bad ∧
      verdictOf .h50i 539 none = .bad ∧ verdictOf .h50i 540 none = .neutral ∧ (busy.feed 2).state = .locked ∧
      (busy.feed 2).profile = .track ∧ (busy.feed 2).freeze = false ∧ (busy.feed 2).writing = some 35 ∧
      (((busyWith id failingFeed).feed 2).applyVerdict .h50i .bad).state = .mismatch ∧
      ((busyWith (fun r => { r with state := .lapsed }) (fun f => { f with state := .mismatch, writing := none })).feed 2).writing =
        none ∧
      (busy.route 0).feed = 2 ∧ (busy.route 0).state = .running ∧ (busy.route 1).feed ≠ 2 :=
  ⟨busy_summary, by decide +kernel⟩

theorem busy_slots : busy.SlotsOk :=
  ⟨by decide +kernel, by decide +kernel, by decide +kernel, by decide +kernel, by decide +kernel, by decide +kernel,
    by decide +kernel, by decide +kernel⟩

theorem witness_GoodPicturesAreOffered :
    busy.SlotsOk ∧ (busy.feed 2).standard = some .h50i ∧ (busy.feed 2).inFlight = true ∧
      (busy.feedPort 2).framing = .accepted ∧ (busy.feedPort 2).lineCount = Standard.h50i.lines ∧
      (busy.feed 2).measurement = some 540120 ∧
      (Standard.h50i.nominal - Standard.h50i.nominal / 16 ≤ (540120 : Tick).toNat ∧
        (540120 : Tick).toNat ≤ Standard.h50i.nominal + Standard.h50i.nominal / 16) ∧
      (busy.feed 2).state = .locked ∧ (busy.feed 2).writing = some 35 ∧ (busy.route 0).feed = 2 ∧
      (busy.route 0).state = .running ∧ ¬((busy.route 1).feed = 2) :=
  ⟨busy_slots, by decide +kernel⟩

/-- A history of ten flags that F23 matches at rotation 0, one that nothing matches, and a lock on an expected repeat. -/
theorem witness_CadenceDetectorDecides :
    findLock Standard.h50i.patterns [false, false, false, false, true, false, false, false, false, true] =
        some (.f23, 0) ∧
      findLock Standard.h50i.patterns (List.replicate 10 true) = none ∧
      Pattern.f23.flags[4 % Pattern.f23.flags.length]? = some true ∧
      Pattern.f23.flags[0 % Pattern.f23.flags.length]? = some false := by
  decide +kernel

theorem witness_SilenceTakesTheFeedToLost :
    busy.SummaryOk ∧ (busy.feed 0).lastStart = none ∧ (busy.feed 2).lastStart.isSome ∧ (busy.feed 2).state = .locked ∧
      (busy.feed 2).inFlight = true ∧ (busy.feed 2).writing = some 35 :=
  ⟨busy_summary, by decide +kernel⟩

/-- A grid of 32 rows of one luma sample. -/
def flatGrid (x : Sample) : Grid := List.replicate 32 (List.replicate 32 x)

/-- Two grids whose distance, 2,048, meets the default threshold (R21). -/
theorem witness_MatchFlagComparesTheGrids :
    (flatGrid 100).length = 32 ∧ (∀ row ∈ flatGrid 100, row.length = 32) ∧ (flatGrid 102).length = 32 ∧
      Standard.h50i.interlaced = true ∧ Standard.h25p.interlaced = false ∧
      ([flatGrid 64, flatGrid 100] : List Grid).getLast? = some (flatGrid 100) ∧
      matchFlag .h25p 2048 [flatGrid 64, flatGrid 100] (flatGrid 102) 1080 = true ∧
      matchFlag .h25p 2047 [flatGrid 64, flatGrid 100] (flatGrid 102) 1080 = false := by
  decide +kernel

/-- A load of a filled table at a stage, with AUTOSTART high. -/
def openingPart (stage : LoadStage) : State :=
  { presetPart with
    cu := State.reset.cu
    presets := tset (tset presetPart.presets 9 (some { request := { request with port := 2 }, startOrder := 16 })) 4
      (some { request := { request with port := 3 }, startOrder := 16 })
    loader := { State.reset.loader with stage := stage, autostart := true } }

/-- The stages of the reading, with a transaction of as many words as are asked for and one word fewer. -/
theorem witness_FlashReadReadsTheImage :
    State.reset.loader.stage = .header ∧ (List.replicate 16 (0xFFFF : Word16)).length = 16 ∧
      ({ State.reset.loader with stage := .length .track 16 } : Loader).stage = .length .track 16 ∧
      ({ State.reset.loader with stage := .body .track 3 } : Loader).stage = .body .track 3 ∧
      busy.loader.stage = .none ∧ ({ State.reset.loader with stage := .complete } : Loader).stage = .complete ∧
      (openingPart (.applying [])).loader.stage = .applying [] ∧
      (openingPart (.opening [9])).loader.stage = .opening [9] := by
  decide +kernel

theorem witness_FailedLoadsApplyNothing :
    State.reset.loader.stage = .header ∧
      ({ State.reset.loader with stage := .stopped .signature } : Loader).stage = .stopped .signature ∧
      (List.replicate 16 (1 : Word16) ++ ([] : List (ModuleId × List Word16)).flatMap Prod.snd).foldl (· + ·) 0 ≠
        0x6D2B := by
  decide +kernel

/-- The Profile module of the image: profile 4 written as SNAP, and then refused as a curve. -/
def goodProfiles : List Word16 := [4, 1] ++ List.replicate 17 0 ++ [4, 0] ++ List.replicate 17 9

/-- An image with a House module that puts timeline A on S625I, a Profile module, a Feed module that sets feed 0 to H50I,
gives feed 1 no standard and is refused for feed 2, and a Preset module of no preset. -/
def goodLoader : Loader :=
  { State.reset.loader with
    stage := .complete
    header := [0xD5C3, 7, 16, 0, 24, 40] ++ List.replicate 9 0 ++ [0x9650]
    bodies := [(.house, [1, 1, 4]), (.profile, goodProfiles),
      (.feed, [3, 0xFFFF, 4, 0, 0xFFFF, 0, 1, 2, 1, 5, 11, 0, 0, 0, 0])] }

/-- The power-on load with the image read. -/
def loadingPart : State := { State.reset with loader := goodLoader }

/-- A power-on load with a House module left to apply: timeline A on H25P, B on H2997P. -/
def housePart : State :=
  { State.reset with
    loader := { State.reset.loader with stage := .applying [.house], bodies := [(.house, [1, 5, 6])] } }

/-- R10: a STOPPED timeline takes the first parity and the drop flag of the House module's standard. -/
theorem test_house_standards :
    nextWith (step housePart) (fun u =>
      u.timelineA == { State.reset.timelineA with standard := .h25p, nextParity := .frame } &&
        u.timelineB == { State.reset.timelineB with standard := .h2997p, nextParity := .frame } &&
        u.timelineB.nextTimecode == ⟨0, 0, 0, 0, true, false⟩) = true ∧
      nextWith (step { housePart with
          loader := { housePart.loader with bodies := [(.house, [1, 2, 11])] } }) (fun u =>
        u.timelineA.nextTimecode == ⟨0, 0, 0, 0, true, false⟩ && u.timelineB == State.reset.timelineB) = true := by
  decide +kernel

theorem witness_AcceptedLoadsApplyTheModules :
    (goodLoader.stage = .complete ∧ goodLoader.powerOn = true ∧
      (goodLoader.header ++ goodLoader.bodies.flatMap Prod.snd).foldl (· + ·) 0 = 0x6D2B ∧
      0 < (goodLoader.body .profile).length / 19 ∧ flashWord (goodLoader.body .profile) 0 = (4 : ProfileId).val ∧
      profileWriteStatus (profileEntry (goodLoader.body .profile) 0) = .ok ∧
      profileWriteStatus (profileEntry (goodLoader.body .profile) 1) = .curveInvalid ∧
      5 * (2 : FeedId).val + 5 ≤ (goodLoader.body .feed).length ∧ (∀ f, loadingPart.feed f = Feed.reset) ∧
      feedSetStatus loadingPart (feedEntry (goodLoader.body .feed) 0) = .ok ∧
      feedSetStatus loadingPart (feedEntry (goodLoader.body .feed) 1) = .ok ∧
      feedSetStatus loadingPart (feedEntry (goodLoader.body .feed) 2) = .range ∧
      (goodLoader.body .feed).length < 5 * (3 : FeedId).val + 5) ∧
    (loadingPart.pending = [] ∧ nextWith (step loadingPart) (fun u => u.loader.stage ==
        .applying [.house, .track, .profile, .feed, .preset]) = true ∧
      (housePart.pending = [] ∧ housePart.loader.stage = .applying [.house] ∧
        (housePart.timeline .a).state = .stopped ∧ (housePart.timeline .b).state = .stopped ∧
        standardOfCode (flashWord (housePart.loader.body .house) 1) = some .h25p ∧
        standardOfCode (flashWord [1, 2, 11] 2) = none) ∧
      (openingPart (.applying [.preset])).pending = [] ∧
      nextWith (step (openingPart (.applying []))) (fun u => u.loader.stage == .opening [4, 9]) = true ∧
      tget (openingPart (.opening [4, 9])).presets 4 = some { request := { request with port := 3 }, startOrder := 16 } ∧
      ({ openingPart (.opening [4, 9]) with cu := (due busy .presetOpen [4]).cu } : State).dueCommand =
        some (command .presetOpen [4]) ∧
      bits (arg [4] 1) 0 8 = (4 : PresetId).val ∧
      nextWith (step (openingPart (.opening [4, 9]))) (fun u => u.loader.stage == .opening [9] &&
        u.loader.result.opened == 1 && (u.route 1).state == .priming) = true) := by
  decide +kernel

theorem witness_TimecodeAdvanceCountsFrames :
    Standard.validTimecode .h50i ⟨23, 59, 59, 24, false, true⟩ = true ∧
      Standard.validTimecode .h5994i ⟨0, 0, 59, 29, true, false⟩ = true ∧ Standard.pairs .h50i = true ∧
      Standard.pairs .h24p = false := by
  decide +kernel

theorem witness_PhaseStepStaysInTheWindow :
    2 ≤ (2 : Nat) ∧ 0 < (138240000 : Nat) ∧ clampPhase 2 65536 = 65535 ∧ clampPhase 4 196607 = 196607 ∧
      (-131072 < (-131071 : Int) ∧ (131071 : Int) < 131072) := by
  decide +kernel

theorem witness_BlendStaysBetweenItsSamples :
    curveValid steepPoints = true ∧ (64 : Nat) ≤ 64 ∧ steepPoints[27 / 4]? = some 4 ∧ steepPoints[27 / 4 + 1]? = some 16 ∧
      steepPoints[63 / 4]? = some 64 ∧ steepPoints[63 / 4 + 1]? = some 64 ∧ 539 < Standard.h50i.lines ∧
      picture.slots.list = [32] ∧ (busy.slot 32).standard = some .h50i ∧
      (Standard.h50i.interlaced = true ↔ Parity.bottom ≠ .frame) ∧ (Standard.h25p.interlaced = true ↔ Parity.frame ≠ .frame) := by
  decide +kernel

/-- A packet that no entry names, and one that the second entry of a map names. -/
theorem witness_MapperActsOnEachPacket :
    packet.key.family ≠ 0 ∧
      (∀ e ∈ ([] : List MapEntry), e.key ≠ packet.key) ∧
      ([{ key := { family := 7, kind := 2 }, action := .drop }, { key := packet.key, action := .pass .once }] :
          List MapEntry) =
        [{ key := { family := 7, kind := 2 }, action := .drop }] ++ { key := packet.key, action := .pass .once } :: [] ∧
      (∀ x ∈ ([{ key := { family := 7, kind := 2 }, action := .drop }] : List MapEntry), x.key ≠ packet.key) := by
  decide +kernel

/-- The busy part with a command at the front of its queue. -/
def stepping : State := { busy with pending := [.ringReset], dram := [(5, 1), (6, 2)] }

theorem stepping_answers : ∃ t, step stepping = .next t := ⟨_, rfl⟩

theorem witness_StepKeepsMemoryListsAndMonitor :
    (∃ t, step stepping = .next t) ∧ Memory.wf stepping.dram ∧ stepping.ListsOk ∧ stepping.MonitorOk := by
  refine ⟨stepping_answers, by decide +kernel, ⟨?_, ?_, ?_, ?_⟩, ⟨?_, ?_, ?_⟩⟩
  · show ∀ f, _ ∧ _
    decide +kernel
  · show ∀ f, _ ∧ _
    decide +kernel
  · show ∀ f, _ ∧ _
    decide +kernel
  · show _ ∧ _
    decide +kernel
  · intro h; exact absurd h (by decide +kernel)
  · intro h; exact absurd h (by decide +kernel)
  · intro h; exact absurd h (by decide +kernel)

theorem busy_windows : ∀ i, (stepping.route i).WindowOk := by
  intro i
  constructor <;> revert i <;> decide +kernel

theorem witness_StepKeepsWindows : stepping.WindowsOk ∧ ∃ t, step stepping = .next t := ⟨busy_windows, stepping_answers⟩

theorem witness_StepKeepsRouteCountsAndTimelines :
    (∃ t, step stepping = .next t) ∧ stepping.CountsOk ∧ stepping.TimelinesOk := by
  refine ⟨stepping_answers, ⟨by decide +kernel, by decide +kernel⟩, ?_⟩
  intro t
  cases t <;> refine ⟨by decide +kernel, ?_, by decide +kernel, by decide +kernel, by decide +kernel⟩ <;>
    exact fun tc h => absurd h (by
      simp [stepping, busy, busyWith, State.timeline, Timeline.start, Timeline.startWith, Timeline.withStandard])

theorem witness_StepKeepsFeeds : stepping.FeedsOk ∧ ∃ t, step stepping = .next t := ⟨busy_feeds, stepping_answers⟩

theorem witness_StepKeepsProfilesAndSettings : stepping.ProfilesOk ∧ ∃ t, step stepping = .next t := by
  have h : ∀ i, (match stepping.profile i with
    | .curve points => curveValid points
    | .snap => true
    | .empty => true) = true := by decide +kernel
  refine ⟨⟨?_, by decide +kernel, by decide +kernel, by decide +kernel, by decide +kernel, by decide +kernel, ?_, ?_⟩,
    stepping_answers⟩
  · intro i points hp
    simpa [hp] using h i
  · have hl : ∀ i, (stepping.route i).setting.holdLimit ≤ 65535 ∧
        ((stepping.route i).setting.retireLimit = none ∨ (stepping.route i).setting.retireLimit = some 20) := by
      decide +kernel
    intro i
    refine ⟨(hl i).1, fun l h => ?_⟩
    rcases (hl i).2 with e | e <;> rw [e] at h <;> cases h
    omega
  · have hp : ∀ n, tget stepping.presets n = none := by decide +kernel
    intro n p h
    rw [hp n] at h
    cases h

theorem witness_StepKeepsSummaryAndCommandUnit :
    (∃ t, step stepping = .next t) ∧ stepping.SummaryOk ∧ stepping.CommandUnitOk :=
  ⟨stepping_answers, busy_summary, ⟨by decide +kernel, by decide +kernel⟩⟩

theorem witness_StepKeepsSlotCounts : stepping.SlotsOk ∧ ∃ t, step stepping = .next t :=
  ⟨⟨busy_slots.1, busy_slots.2, busy_slots.3, busy_slots.4, busy_slots.5, busy_slots.6, busy_slots.7, busy_slots.8⟩,
    stepping_answers⟩

end Sys2Proof.Tests
end

/-! The taking of a due command with a known effect, and TIMELINE_READ (R13): what it answers and what it leaves
unchanged. -/

namespace Sys2Proof.Machine

/-! ## Taking a due command whose effect is known (R151, R152) -/

/-- A due command whose effect leaves the state `u`, with the Command Unit untouched, and the reply `r`: the part holds
`u` after it, but for what `Taken` says of the Command Unit and the device scope. -/
theorem take_spec (k : CmdKind) (effect : List Word → State → State × Reply) (s u : State) (c : Command) (r : Reply)
    (hdue : s.dueCommand = some c) (hkind : c.kind = k) (heffect : effect c.args s = (u, r)) (hcu : u.cu = s.cu) :
    take k effect s = { u with cu := (take k effect s).cu, device := (take k effect s).device } ∧
      Taken s (take k effect s) u.device c r := by
  have htake : take k effect s = u.finishTake c r := by
    rw [take_due k effect s c hdue hkind, heffect]
  rw [htake]
  exact State.finishTake_spec s u c r hcu

/-! ## Timeline codes (12) -/

theorem timelineOfCode_eq_none_of_one_lt (n : Nat) (h : 1 < n) : timelineOfCode n = none := by
  unfold timelineOfCode
  split
  · omega
  · omega
  · rfl

@[simp] theorem timelineOfCode_timelineCode (t : TimelineId) : timelineOfCode (timelineCode t) = some t := by
  cases t <;> rfl

/-! ## TIMELINE_READ (R13) -/

theorem exec_timelineRead (s : State) : exec .timelineRead s = .next (take .timelineRead timelineRead s) := rfl

theorem timelineRead_of_none (args : List Word) (s : State) (h : timelineOfCode (bits (arg args 1) 0 8) = none) :
    timelineRead args s = (s, Reply.refusal .range) := by
  simp only [timelineRead, h, refuse]

theorem timelineRead_of_some (args : List Word) (s : State) (t : TimelineId)
    (h : timelineOfCode (bits (arg args 1) 0 8) = some t) :
    timelineRead args s =
      ({ s with reference := if bit (arg args 1) 8 then { s.reference with badPulses := 0 } else s.reference },
        Reply.ok (timelineReadWords s t)) := by
  simp only [timelineRead, h]

/-- Settles O25: the code in word 1 names no timeline or the timeline `u`, and in each case `take_spec` turns the effect
of TIMELINE_READ into the state and the reply. -/
theorem timelineReadCarriesTheTimeline : Obligations.TimelineReadCarriesTheTimeline := by
  intro s c hdue hkind
  constructor
  · intro hcode
    have heffect := timelineRead_of_none c.args s (timelineOfCode_eq_none_of_one_lt _ hcode)
    exact ⟨_, exec_timelineRead s, take_spec .timelineRead timelineRead s s c _ hdue hkind heffect rfl⟩
  · intro u hcode
    have hu : bits (arg c.args 1) 0 8 = timelineCode u := by
      rcases hcode with ⟨rfl, h⟩ | ⟨rfl, h⟩ <;> exact h
    have heffect := timelineRead_of_some c.args s u (by rw [hu, timelineOfCode_timelineCode])
    exact ⟨_, exec_timelineRead s, take_spec .timelineRead timelineRead s _ c _ hdue hkind heffect rfl⟩

end Sys2Proof.Machine

/-! ROUTE_TRIM (R74): what it answers and what it leaves unchanged. -/

namespace Sys2Proof.Machine

/-! ## Commands that name a route by its handle (R56) -/

theorem withHandle_of_valid (args : List Word) (s : State) (k : RouteId → State × Reply)
    (h : s.handleValid (bits (arg args 1) 0 8) = true) :
    withHandle args s k = k (handleIndex (bits (arg args 1) 0 8)) := by
  simp only [withHandle, h, if_true]

theorem withHandle_of_stale (args : List Word) (s : State) (k : RouteId → State × Reply)
    (h : s.handleValid (bits (arg args 1) 0 8) = false) : withHandle args s k = (s, Reply.refusal .stale) := by
  simp only [withHandle, h, refuse, Bool.false_eq_true, if_false]

/-! ## The trim (R74, R83) -/

/-- A trim is the number that the old trim and the step give, kept in 0 to 99. -/
theorem stepTrim_eq_of_cast_eq (old trim : Nat) (step : Int) (h : (trim : Int) = max 0 (min 99 ((old : Int) + step))) :
    stepTrim old step = trim := by
  unfold stepTrim
  rw [← h, Int.toNat_natCast]

/-- A record with its trim replaced, as ROUTE_TRIM leaves it. -/
def Route.withTrim (r : Route) (trim : Nat) : Route := { r with setting := { r.setting with trim := trim } }

/-- The error of a step is measured from the centre of the new trim (R83, R86). -/
theorem Route.stepPhase_error_withTrim (r : Route) (trim period : Nat) :
    ((r.withTrim trim).stepPhase period).error = 65536 + 1310 * trim - (r.withTrim trim).nextPhase period := rfl

/-! ## ROUTE_TRIM (R74) -/

theorem exec_routeTrim (s : State) : exec .routeTrim s = .next (take .routeTrim routeTrim s) := rfl

theorem routeTrim_of_stale (args : List Word) (s : State) (h : s.handleValid (bits (arg args 1) 0 8) = false) :
    routeTrim args s = (s, Reply.refusal .stale) :=
  withHandle_of_stale args s _ h

theorem routeTrim_of_step_out_of_range (args : List Word) (s : State)
    (h : s.handleValid (bits (arg args 1) 0 8) = true)
    (hstep : signed8 (bits (arg args 1) 8 8) < -99 ∨ 99 < signed8 (bits (arg args 1) 8 8)) :
    routeTrim args s = (s, Reply.refusal .range) := by
  simp only [routeTrim, withHandle_of_valid args s _ h, if_pos hstep, refuse]

theorem routeTrim_of_step_in_range (args : List Word) (s : State) (i : RouteId) (trim : Nat)
    (h : s.handleValid (bits (arg args 1) 0 8) = true) (hi : handleIndex (bits (arg args 1) 0 8) = i)
    (hlow : -99 ≤ signed8 (bits (arg args 1) 8 8)) (hhigh : signed8 (bits (arg args 1) 8 8) ≤ 99)
    (htrim : stepTrim (s.route i).setting.trim (signed8 (bits (arg args 1) 8 8)) = trim) :
    routeTrim args s = (s.setRoute i ((s.route i).withTrim trim), Reply.ok [pack [⟨trim, 0, 8⟩]]) := by
  have hstep : ¬ (signed8 (bits (arg args 1) 8 8) < -99 ∨ 99 < signed8 (bits (arg args 1) 8 8)) := by omega
  simp only [routeTrim, withHandle_of_valid args s _ h, if_neg hstep, hi, htrim, Route.withTrim]

/-- Settles O17: R74's checks in their order, the handle and then the step, each give the effect of ROUTE_TRIM, which
`take_spec` turns into the state and the reply; the record that then stands has the new trim, and its step the new
centre. -/
theorem routeTrimMovesTheTrim : Obligations.RouteTrimMovesTheTrim := by
  rintro s c _ i _ hdue hkind rfl hi rfl
  refine ⟨fun hstale => ?stale, fun hvalid hstep => ?range, fun trim hvalid hlow hhigh htrim => ?ok⟩
  case stale =>
    have heffect := routeTrim_of_stale c.args s hstale
    exact ⟨_, exec_routeTrim s, take_spec .routeTrim routeTrim s s c _ hdue hkind heffect rfl⟩
  case range =>
    have heffect := routeTrim_of_step_out_of_range c.args s hvalid hstep
    exact ⟨_, exec_routeTrim s, take_spec .routeTrim routeTrim s s c _ hdue hkind heffect rfl⟩
  case ok =>
    have hnew := stepTrim_eq_of_cast_eq _ _ _ htrim
    have heffect := routeTrim_of_step_in_range c.args s i trim hvalid hi.symm hlow hhigh hnew
    obtain ⟨hstate, htaken⟩ := take_spec .routeTrim routeTrim s _ c _ hdue hkind heffect rfl
    have hroute : (take .routeTrim routeTrim s).route i = (s.route i).withTrim trim := by
      rw [hstate]
      exact State.setRoute_route_self s i _
    refine ⟨_, exec_routeTrim s, hstate, fun period => ?_, htaken⟩
    rw [hroute]
    exact Route.stepPhase_error_withTrim _ _ _

end Sys2Proof.Machine

/-! PROFILE_READ (R118): what it answers and what it leaves unchanged. -/

namespace Sys2Proof.Machine

/-! ## The points that a reply carries (R118; 12) -/

/-- What chapter 12 has a PROFILE_READ report of a profile: the points of a CURVE, and 17 zeros of any other kind. -/
def Profile.Reports (p : Profile) (points : List Nat) : Prop :=
  p = .curve points ∨ ((∀ l, p ≠ .curve l) ∧ points = List.replicate 17 0)

theorem curvePoint_nil (k : Nat) : curvePoint [] k = 0 := rfl

theorem curvePoint_replicate_zero (n k : Nat) : curvePoint (List.replicate n 0) k = 0 :=
  List.getElem?_getD_replicate_default_eq 0 n k

theorem Profile.points_of_ne_curve (p : Profile) (h : ∀ l, p ≠ .curve l) : p.points = [] := by
  cases p with
  | curve points => exact absurd rfl (h points)
  | snap => rfl
  | empty => rfl

/-- The model keeps no points for SNAP and EMPTY, and a point that is not kept reads 0, as chapter 12 has it. -/
theorem Profile.Reports.curvePoint_points {p : Profile} {points : List Nat} (h : p.Reports points) (k : Nat) :
    curvePoint p.points k = curvePoint points k := by
  rcases h with rfl | ⟨hkind, rfl⟩
  · rfl
  · rw [p.points_of_ne_curve hkind, curvePoint_nil, curvePoint_replicate_zero]

theorem Profile.Reports.pointsWord_points {p : Profile} {points : List Nat} (h : p.Reports points) (k : Nat) :
    pointsWord p.points k = pointsWord points k := by
  simp only [pointsWord, h.curvePoint_points]

theorem profileReadWords_of_reports (s : State) (i : ProfileId) (points : List Nat)
    (h : (s.profile i).Reports points) :
    profileReadWords s i =
      [pack [⟨(s.profile i).code, 0, 2⟩, ⟨if i.val < 4 then 1 else 0, 8, 1⟩, ⟨s.profileUsers i, 16, 5⟩],
       pointsWord points 0, pointsWord points 1, pointsWord points 2, pointsWord points 3,
       pack [⟨curvePoint points 16, 0, 8⟩]] := by
  simp only [profileReadWords, flag, decide_eq_true_eq, h.pointsWord_points, h.curvePoint_points]

/-! ## PROFILE_READ (R118) -/

theorem exec_profileRead (s : State) : exec .profileRead s = .next (take .profileRead profileRead s) := rfl

theorem profileRead_of_out_of_range (args : List Word) (s : State) (h : 32 ≤ bits (arg args 1) 0 8) :
    profileRead args s = (s, Reply.refusal .range) := by
  simp only [profileRead, if_pos h, refuse]

theorem profileRead_of_profile (args : List Word) (s : State) (i : ProfileId) (h : i.val = bits (arg args 1) 0 8) :
    profileRead args s = (s, Reply.ok (profileReadWords s i)) := by
  have hrange : ¬ 32 ≤ i.val := by omega
  have hprofile : Fin.ofNat 32 i.val = i := Fin.ofNat_val_eq_self i
  simp only [profileRead, ← h, if_neg hrange, hprofile]

/-- Settles O23: the number in word 1 is outside 0 to 31 or that of the profile `i`, and in each case `take_spec` turns
the effect of PROFILE_READ, which keeps the state, into the state and the reply. -/
theorem profileReadCarriesTheProfile : Obligations.ProfileReadCarriesTheProfile := by
  rintro s c _ hdue hkind rfl
  refine ⟨fun hrange => ?range, fun i points hi hreports => ?ok⟩
  case range =>
    have heffect := profileRead_of_out_of_range c.args s hrange
    exact ⟨_, exec_profileRead s, take_spec .profileRead profileRead s s c _ hdue hkind heffect rfl⟩
  case ok =>
    have heffect := profileRead_of_profile c.args s i hi
    rw [profileReadWords_of_reports s i points hreports] at heffect
    rw [← hi]
    exact ⟨_, exec_profileRead s, take_spec .profileRead profileRead s s c _ hdue hkind heffect rfl⟩

end Sys2Proof.Machine

/-! The elementary actions of the part: one relation says once what a step can do, and every law that all steps keep is
proved over its cases. -/

namespace Sys2Proof.Machine

/-! ## Elementary actions -/

/-- A whole open setting as the part gets one: from a command's words, or from a filled preset (R58, R169). -/
def OpenRequest.Given (s : State) (q : OpenRequest) : Prop :=
  (∃ ws, q = requestOfWords ws) ∨ ∃ n p, tget s.presets n = some p ∧ q = p.request

/-- A flush of a record (R65) with its next record: the window's slots are let go. -/
def State.flushInto (s : State) (i : RouteId) (r : Route) : State :=
  { s.setRoute i r with slots := dropWindow (s.route i) s.slots }

/-- One elementary action of the part: what a command's own effect consists of. Reference Unit, tracking constants,
Command Unit, device scope, loader and queue stand apart, in `outside`. -/
inductive Act (s : State) : State → Prop
  | outside (t : State)
      (h : t = { s with
        reference := t.reference, trackK := t.trackK, cu := t.cu, device := t.device, loader := t.loader
        pending := t.pending }) : Act s t
  | powerOn (pin : Bool) : Act s (s.powerOn pin)
  | controlReset : Act s s.controlReset
  | openRoute (i : RouteId) (q : OpenRequest) (given : q.Given s) (status : openStatus s q = .ok)
      (record : s.freeRecord = some i) : Act s (s.openRoute i q)
  | alter (i : RouteId) (p : AlterFlags) (ws : List Word) (status : alterStatus s p (requestOfWords ws) = .ok) :
      Act s (s.setRoute i ((s.route i).alter p (requestOfWords ws)))
  | trim (i : RouteId) (step : Int) :
      Act s (s.setRoute i ((s.route i).withTrim (stepTrim (s.route i).setting.trim step)))
  | mark (i : RouteId) (r : Route)
      (h : r = { s.route i with counters := r.counters, checker := r.checker, events := r.events }) :
      Act s (s.setRoute i r)
  | hold (i : RouteId) : Act s (s.setRoute i (s.route i).hold)
  | resume (i : RouteId) (held : (s.route i).state = .held) :
      Act s (s.setRoute i
        { s.route i with state := if 2 ≤ (s.route i).window.length then .running else .priming })
  | close (i : RouteId) (live : (s.route i).state.live = true) :
      Act s
        { s.flushInto i ((s.route i).endLife (s.route i).closeState) with
          feeds := tset s.feeds (s.route i).feed (s.feed (s.route i).feed).dropRoute }
  | starve (i : RouteId) (taking : (s.route i).state.taking = true) : Act s (s.flushInto i (s.route i).starve)
  | recover (i : RouteId) (resting : (s.route i).state = .starved ∨ (s.route i).state = .lapsed) :
      Act s (s.flushInto i (s.route i).recover)
  | flush (i : RouteId) (held : (s.route i).state = .held) : Act s (s.flushInto i (s.route i).flush)
  | feedMark (f : FeedId) (a : Feed)
      (h : a = { s.feed f with
        pictures := a.pictures, runts := a.runts, rejects := a.rejects, damaged := a.damaged
        overruns := a.overruns, events := a.events }) : Act s (s.setFeed f a)
  | feedSet (q : FeedRequest) (status : feedSetStatus s q = .ok) : Act s (s.applyFeedSet q)
  | profileWrite (q : ProfileRequest) (status : profileWriteStatus q = .ok) :
      Act s { s with profiles := tset s.profiles (Fin.ofNat 32 q.profile) q.contents }
  | presets (body : List Word16) : Act s (s.applyPresets body)
  | house (body : List Word16) : Act s (s.applyHouse body)
  | cut (t : TimelineId) : Act s (s.cutTimeline t)
  | start (t : TimelineId) (st : Standard) (tick : Tick) (tc : Timecode) (valid : st.validTimecode tc = true)
      (single : tc.pair = false) : Act s (s.setTimeline t ((s.timeline t).startWith st tick tc))
  | portMark (p : PortId) (a : Port) (h : a = { s.port p with timeline := a.timeline, mute := a.mute }) :
      Act s (s.setPort p a)
  | setView (view : MonitorView) : Act s (s.setView view)
  | advance (t : TimelineId) (running : (s.timeline t).state = .running) :
      Act s (s.setTimeline t (s.timeline t).boundary)
  | running (i : RouteId) (parity : Parity) (running : (s.route i).state = .running) :
      Act s (s.runningBoundary i parity)
  | held (i : RouteId) (held : (s.route i).state = .held) (two : 2 ≤ (s.route i).window.length) :
      Act s (s.setRoute i ((s.route i).stepPhase (s.feed (s.route i).feed).period))
  | lapse (i : RouteId) : Act s (s.setRoute i (s.route i).advanceLapse)
  | enterLapsed (i : RouteId) (starved : (s.route i).state = .starved) :
      Act s { s.setRoute i (s.route i).enterLapsed with
        slots := SlotTable.releasePair s.slots (pairList (s.route i).pair) }
  | retire (i : RouteId) (resting : (s.route i).state = .starved ∨ (s.route i).state = .lapsed) : Act s (s.retire i)
  | closing (i : RouteId) (closing : (s.route i).state = .closing) : Act s (s.closingBoundary i)
  | portBoundary (p : PortId) (parity : Parity) (house : Option Timecode) : Act s (s.portBoundary p parity house)
  | monitorBoundary (t : TimelineId) (parity : Parity) (house : Option Timecode) :
      Act s (s.monitorBoundary t parity house)
  | line (o : OutputId) : Act s (s.outputLine o)
  | framing (f : FeedId) (framing : Framing) : Act s (s.setFeedPort f { s.feedPort f with framing := framing })
  | abandon (f : FeedId) : Act s (s.abandon f)
  | verdictBad (f : FeedId) (st : Standard) (rest : (s.feed f).inFlight = false) :
      Act s (s.setFeed f ((s.feed f).applyVerdict st .bad))
  | begin (f : FeedId) (st : Standard) (tick : Tick) (m : Option Tick) (parity : Parity)
      (standard : (s.feed f).standard = some st) (rest : (s.feed f).inFlight = false) :
      Act s ((s.setFeed f (((s.feed f).enterAcquire st).takeStart tick m)).setFeedPort f
        ((s.feedPort f).begin parity))
  | store (f : FeedId) (st : Standard) (seq : BitVec 32) (parity : Parity) (flight : (s.feed f).inFlight = true)
      (unwritten : (s.feed f).writing = none) : Act s (s.store f st seq parity)
  | activeLine (f : FeedId) (pels : List Pel) : Act s (s.activeLine f pels)
  | packet (f : FeedId) (p : Packet) : Act s (s.packet f p)
  | timecodeIn (f : FeedId) (tc : Timecode) : Act s (s.timecodeIn f tc)
  | endFlight (f : FeedId) (st : Standard) (standard : (s.feed f).standard = some st)
      (flight : (s.feed f).inFlight = true) : Act s (s.endFlight f st)
  | goLost (f : FeedId) (runs : (s.feed f).silenceRuns = true) (rest : (s.feed f).inFlight = false) :
      Act s ((s.setFeed f (s.feed f).goLost).setFeedPort f { s.feedPort f with refs := [] })

/-- Actions one after the other. -/
abbrev Acts : State → State → Prop := Relation.ReflTransGen Act

theorem Acts.refl (s : State) : Acts s s := Relation.ReflTransGen.refl

theorem Acts.one {s t : State} (h : Act s t) : Acts s t := Relation.ReflTransGen.single h

theorem Acts.andThen {s t u : State} (h : Acts s t) (h' : Acts t u) : Acts s u := Relation.ReflTransGen.trans h h'

/-- A law that each action keeps is kept by actions one after the other. -/
theorem Acts.keeps {P : State → Prop} (one : ∀ s t, Act s t → P s → P t) {s t : State} (h : Acts s t) (hs : P s) :
    P t := by
  induction h with
  | refl => exact hs
  | tail _ act ih => exact one _ _ act ih

/-! ## Steps outside the blocks -/

theorem Acts.outside {s : State} (t : State)
    (h : t = { s with
      reference := t.reference, trackK := t.trackK, cu := t.cu, device := t.device, loader := t.loader
      pending := t.pending }) : Acts s t :=
  Acts.one (Act.outside t h)

theorem Acts.notify (s : State) : Acts s s.notify := Acts.outside _ rfl

theorem Acts.partDone (s : State) (stage : LoadStage) : Acts s (s.partDone stage) := Acts.outside _ rfl

theorem Acts.setResult (s : State) (r : LoaderResult) : Acts s (s.setResult r) := Acts.outside _ rfl

theorem Acts.evaluate (s : State) : Acts s s.evaluate := Acts.outside _ rfl

theorem Acts.evaluateUnlessStopped (s : State) : Acts s s.evaluateUnlessStopped := by
  unfold State.evaluateUnlessStopped
  split
  · exact Acts.refl s
  · exact Acts.evaluate s

/-- A take does what the command's effect does, and the rest of it stands outside the blocks. -/
theorem Acts.take {k : CmdKind} {effect : List Word → State → State × Reply} {s : State}
    (h : ∀ args, Acts s (effect args s).1) : Acts s (take k effect s) := by
  unfold Machine.take
  split
  · split
    · exact (h _).andThen (Acts.outside _ rfl)
    · exact Acts.refl s
  · exact Acts.refl s

/-- A command that names a route by its handle does nothing, or what it does to a live route. -/
theorem Acts.withHandle {args : List Word} {s : State} {k : RouteId → State × Reply}
    (h : ∀ i, (s.route i).state.live = true → Acts s (k i).1) : Acts s (withHandle args s k).1 := by
  unfold Machine.withHandle
  split
  · next hv =>
    exact h _ (by simpa using (Bool.and_eq_true _ _ ▸ hv : _ ∧ _).1)
  · exact Acts.refl s

end Sys2Proof.Machine

namespace Sys2Proof.Machine

/-! ## The ring commands' effects -/

theorem State.setRoute_self_with_slots (s : State) (i : RouteId) :
    { s.setRoute i (s.route i) with slots := s.slots } = s := by
  simp [State.setRoute, State.route]

theorem Acts.tryOpen {s : State} {q : OpenRequest} (given : q.Given s) : Acts s (tryOpen q s).1 := by
  unfold Machine.tryOpen
  split
  · next i hstatus hrecord => exact Acts.one (Act.openRoute i q given hstatus hrecord)
  · exact Acts.refl s

theorem Acts.routeOpen (args : List Word) (s : State) : Acts s (routeOpen args s).1 :=
  Acts.tryOpen (Or.inl ⟨args, rfl⟩)

theorem Acts.presetOpen (args : List Word) (s : State) : Acts s (presetOpen args s).1 := by
  unfold Machine.presetOpen
  dsimp only
  split
  · exact Acts.refl s
  · split
    · exact Acts.refl s
    · next p hp => exact Acts.tryOpen (Or.inr ⟨_, p, hp, rfl⟩)

theorem Acts.routeAlter (args : List Word) (s : State) : Acts s (routeAlter args s).1 := by
  refine Acts.withHandle fun i _ => ?_
  dsimp only
  split
  · next hstatus => exact Acts.one (Act.alter i _ _ hstatus)
  · exact Acts.refl s

theorem Acts.routeTrim (args : List Word) (s : State) : Acts s (routeTrim args s).1 := by
  refine Acts.withHandle fun i _ => ?_
  dsimp only
  split
  · exact Acts.refl s
  · exact Acts.one (Act.trim i _)

theorem Acts.routeHold (args : List Word) (s : State) : Acts s (routeHold args s).1 :=
  Acts.withHandle fun i _ => Acts.one (Act.hold i)

theorem Acts.routeRelease (args : List Word) (s : State) : Acts s (routeRelease args s).1 := by
  refine Acts.withHandle fun i _ => ?_
  dsimp only [Route.release]
  split
  · rw [State.setRoute_self_with_slots]
  · next hheld =>
    have hheld : (s.route i).state = .held := by simpa using hheld
    split
    · exact Acts.one (Act.starve i (by rw [hheld]; rfl))
    · have hact := Act.resume i hheld
      split
      · next h => exact Acts.one (by rw [if_pos h] at hact; exact hact)
      · next h => exact Acts.one (by rw [if_neg h] at hact; exact hact)

theorem Acts.routeClose (args : List Word) (s : State) : Acts s (routeClose args s).1 :=
  Acts.withHandle fun i hlive => Acts.one (Act.close i hlive)

theorem Acts.routeRead (args : List Word) (s : State) : Acts s (routeRead args s).1 := by
  refine Acts.withHandle fun i _ => ?_
  dsimp only
  split
  · exact Acts.one (Act.mark i _ rfl)
  · exact Acts.refl s

theorem Acts.checkSet (args : List Word) (s : State) : Acts s (checkSet args s).1 := by
  refine Acts.withHandle fun i _ => ?_
  dsimp only
  split
  · exact Acts.refl s
  · exact Acts.one (Act.mark i _ rfl)

theorem Acts.tryFeedSet (q : FeedRequest) (s : State) : Acts s (tryFeedSet q s).1 := by
  unfold Machine.tryFeedSet
  split
  · next hstatus => exact Acts.one (Act.feedSet q hstatus)
  · exact Acts.refl s

theorem Acts.feedRead (args : List Word) (s : State) : Acts s (feedRead args s).1 := by
  unfold Machine.feedRead
  dsimp only
  split
  · exact Acts.refl s
  · split
    · exact Acts.one (Act.feedMark _ _ rfl)
    · exact Acts.refl s

theorem Acts.trackSet (args : List Word) (s : State) : Acts s (trackSet args s).1 := by
  rw [trackSet_only]
  exact Acts.outside _ rfl

theorem Acts.tryProfileWrite (q : ProfileRequest) (s : State) : Acts s (tryProfileWrite q s).1 := by
  unfold Machine.tryProfileWrite
  split
  · next hstatus => exact Acts.one (Act.profileWrite q hstatus)
  · exact Acts.refl s

/-- 00:00:00:00 is a timecode of every standard (R2). -/
theorem validTimecode_zero (st : Standard) : st.validTimecode (zeroTimecode st.drop) = true := by
  cases st <;> rfl

/-- An accepted TIMELINE_SET starts a timeline at a valid timecode, the first of a pair (R12). -/
theorem timelineSetTimecode_valid (s : State) (t : TimelineId) (st : Standard) (time : Option Word)
    (h : timelineSetStatus s (some t) (some st) time = .ok) :
    st.validTimecode (timelineSetTimecode st time) = true ∧ (timelineSetTimecode st time).pair = false := by
  cases time with
  | none => exact ⟨validTimecode_zero st, rfl⟩
  | some w =>
    refine ⟨?_, rfl⟩
    by_contra hvalid
    simp [timelineSetStatus, timelineSetTimecode] at h hvalid
    simp [hvalid] at h

theorem Acts.timelineSet (tick : Tick) (args : List Word) (s : State) : Acts s (timelineSet tick args s).1 := by
  unfold Machine.timelineSet
  dsimp only
  split
  · next t st hstatus ht hst =>
    rw [ht, hst] at hstatus
    obtain ⟨hvalid, hpair⟩ := timelineSetTimecode_valid s t st _ hstatus
    have hsame : (s.cutTimeline t).timeline t = s.timeline t := by cases t <;> rfl
    refine (Acts.one (Act.cut t)).andThen ?_
    rw [← hsame]
    exact Acts.one (Act.start t st tick _ hvalid hpair)
  · exact Acts.refl s

theorem Acts.timelineRead (args : List Word) (s : State) : Acts s (timelineRead args s).1 := by
  rw [timelineRead_only]
  exact Acts.outside _ rfl

theorem Acts.portSet (args : List Word) (s : State) : Acts s (portSet args s).1 := by
  unfold Machine.portSet
  dsimp only
  split
  · exact Acts.refl s
  · split
    · exact Acts.refl s
    · split
      · exact Acts.refl s
      · exact Acts.one (Act.portMark _ _ rfl)

theorem Acts.portMute (args : List Word) (s : State) : Acts s (portMute args s).1 := by
  unfold Machine.portMute
  dsimp only
  split
  · exact Acts.refl s
  · split
    · exact Acts.refl s
    · exact Acts.one (Act.portMark _ _ rfl)

theorem Acts.monitorSet (args : List Word) (s : State) : Acts s (monitorSet args s).1 := by
  unfold Machine.monitorSet
  split
  · exact Acts.refl s
  · dsimp only
    split
    · exact Acts.refl s
    · exact Acts.one (Act.setView _)

theorem Acts.eventsTake (args : List Word) (s : State) : Acts s (eventsTake args s).1 := by
  unfold Machine.eventsTake
  split
  · unfold takeRouteEvents
    dsimp only
    split
    · exact Acts.one (Act.mark _ _ rfl)
    · exact Acts.refl s
  · unfold takeFeedEvents
    dsimp only
    split
    · exact Acts.refl s
    · exact Acts.one (Act.feedMark _ _ rfl)
  · exact Acts.outside _ rfl
  · exact Acts.refl s

theorem Acts.notifySet (args : List Word) (s : State) : Acts s (notifySet args s).1 := by
  rw [notifySet_only]
  exact Acts.outside _ rfl

/-! ## Feed loss and recovery (R66, R67) -/

/-- A property of the part and its records that holds at the start and that each record's change keeps holds after all
records are changed. -/
theorem State.overRoutes_induct (P : State → Prop) (g : RouteId → Route → SlotTable → Route × SlotTable) (s : State)
    (hs : P s)
    (one : ∀ (u : State) (i : RouteId), P u →
      P { u.setRoute i (g i (u.route i) u.slots).1 with slots := (g i (u.route i) u.slots).2 }) :
    P (s.overRoutes g) := by
  unfold State.overRoutes Machine.overRoutes
  generalize List.finRange 16 = l
  induction l generalizing s with
  | nil => exact hs
  | cons i l ih => exact ih _ (one s i hs)

theorem Acts.overRoutes {g : RouteId → Route → SlotTable → Route × SlotTable} (s : State)
    (one : ∀ (u : State) (i : RouteId),
      Acts u { u.setRoute i (g i (u.route i) u.slots).1 with slots := (g i (u.route i) u.slots).2 }) :
    Acts s (s.overRoutes g) :=
  State.overRoutes_induct (Acts s) g s (Acts.refl s) fun u i h => h.andThen (one u i)

theorem Acts.feedLost (f : FeedId) (s : State) : Acts s (s.overRoutes (Route.feedLost f)) := by
  refine Acts.overRoutes s fun u i => ?_
  unfold Route.feedLost
  split
  · next h =>
    refine Acts.one (Act.starve i ?_)
    rcases h.2 with h | h <;> rw [h] <;> rfl
  · rw [State.setRoute_self_with_slots]

theorem Acts.feedBack (f : FeedId) (s : State) : Acts s (s.overRoutes (Route.feedBack f)) := by
  refine Acts.overRoutes s fun u i => ?_
  unfold Route.feedBack
  split
  · next h => exact Acts.one (Act.recover i h.2)
  · split
    · next h => exact Acts.one (Act.flush i h.2)
    · rw [State.setRoute_self_with_slots]

theorem Acts.feedChanged (s : State) (f : FeedId) (old new : FeedState) : Acts s (s.feedChanged f old new) := by
  unfold State.feedChanged
  split
  · exact Acts.refl s
  · split
    · exact Acts.feedLost f s
    · split
      · exact Acts.feedBack f s
      · exact Acts.refl s

end Sys2Proof.Machine

namespace Sys2Proof.Machine

/-! ## The events of the feed ports -/

theorem State.abandon_inFlight (s : State) (f : FeedId) : ((s.abandon f).feed f).inFlight = false := by
  unfold State.abandon
  split
  · simp [State.feed, State.setFeed]
  · next h => simpa using h

theorem State.abandon_standard (s : State) (f : FeedId) : ((s.abandon f).feed f).standard = (s.feed f).standard := by
  unfold State.abandon
  split
  · simp [State.feed, State.setFeed, Feed.damage, Feed.raise]
  · rfl

/-- A verdict moves the state, the runs, the period, REJECTS and the pending events of a feed (R29 to R31). -/
theorem Feed.applyVerdict_only (f : Feed) (st : Standard) (v : Verdict) :
    f.applyVerdict st v =
      { f with
        state := (f.applyVerdict st v).state, period := (f.applyVerdict st v).period
        goodRun := (f.applyVerdict st v).goodRun, rejectRun := (f.applyVerdict st v).rejectRun
        badRun := (f.applyVerdict st v).badRun, rejects := (f.applyVerdict st v).rejects
        events := (f.applyVerdict st v).events } := by
  unfold Feed.applyVerdict Feed.raiseChange Feed.acquireVerdict Feed.lockedVerdict Feed.mismatchVerdict
  cases hs : f.state <;> cases v <;> dsimp only <;> repeat' split
  all_goals rfl

theorem Acts.truncate (s : State) (f : FeedId) (st : Standard) : Acts s (s.truncate f st) := by
  unfold State.truncate
  split
  · exact (Acts.one (Act.abandon f)).andThen (Acts.one (Act.verdictBad f st (s.abandon_inFlight f)))
  · exact Acts.refl s

theorem State.truncate_inFlight (s : State) (f : FeedId) (st : Standard) :
    ((s.truncate f st).feed f).inFlight = false := by
  unfold State.truncate
  split
  · rw [State.setFeed_feed_self, Feed.applyVerdict_only]
    exact s.abandon_inFlight f
  · next h => simpa using h

theorem State.truncate_standard (s : State) (f : FeedId) (st : Standard) :
    ((s.truncate f st).feed f).standard = (s.feed f).standard := by
  unfold State.truncate
  split
  · rw [State.setFeed_feed_self, Feed.applyVerdict_only]
    exact s.abandon_standard f
  · rfl

theorem Acts.acceptStart (s : State) (f : FeedId) (st : Standard) (tick : Tick) (parity : Parity)
    (hst : (s.feed f).standard = some st) : Acts s (s.acceptStart f st tick parity) := by
  have hbegin : Acts (s.truncate f st) (s.startPicture f st tick parity) :=
    Acts.one (Act.begin f st tick _ parity ((s.truncate_standard f st).trans hst) (s.truncate_inFlight f st))
  have hfeed : (s.startPicture f st tick parity).feed f =
      (((s.truncate f st).feed f).enterAcquire st).takeStart tick ((s.feed f).measure tick) :=
    State.setFeed_feed_self _ f _
  have hstore : Acts (s.startPicture f st tick parity) ((s.startPicture f st tick parity).store f st _ parity) :=
    Acts.one (Act.store f st (s.feed f).nextSeq parity (by rw [hfeed]; rfl) (by rw [hfeed]; rfl))
  exact (((Acts.truncate s f st).andThen hbegin).andThen hstore).andThen (Acts.feedChanged _ _ _ _)

theorem Acts.pictureStart (s : State) (f : FeedId) (tick : Tick) (bottom : Bool) :
    Acts s (s.pictureStart f tick bottom) := by
  unfold State.pictureStart
  split
  · exact Acts.refl s
  · next st hst =>
    split
    · exact (Acts.one (Act.feedMark f _ rfl)).andThen (Acts.one (Act.framing f .runt))
    · exact Acts.acceptStart s f st tick _ hst

theorem Acts.pictureEnd (s : State) (f : FeedId) : Acts s (s.pictureEnd f) := by
  unfold State.pictureEnd
  split
  · exact Acts.one (Act.framing f .none)
  · next st hst =>
    split
    · next hframed =>
      have hflight : (s.feed f).inFlight = true := by
        simp only [State.framed, Bool.and_eq_true] at hframed
        exact hframed.1
      exact Acts.one (Act.endFlight f st hst hflight)
    · exact Acts.one (Act.framing f .none)

theorem Acts.silenceExpiry (s : State) (f : FeedId) : Acts s (s.silenceExpiry f) := by
  unfold State.silenceExpiry
  dsimp only
  split
  · next hruns =>
    have hruns' : ((s.abandon f).feed f).silenceRuns = true := by
      unfold State.abandon
      split
      · simpa [Feed.silenceRuns, Feed.damage, Feed.raise, State.feed, State.setFeed] using hruns
      · exact hruns
    exact ((Acts.one (Act.abandon f)).andThen (Acts.one (Act.goLost f hruns' (s.abandon_inFlight f)))).andThen
      (Acts.feedChanged _ _ _ _)
  · exact Acts.refl s

/-! ## The boundary (R11) -/

theorem Acts.lapseBoundary (s : State) (i : RouteId)
    (h : (s.route i).state = .starved ∨ (s.route i).state = .lapsed) : Acts s (s.lapseBoundary i) := by
  have hlapse : Acts s (s.setRoute i (s.route i).advanceLapse) := Acts.one (Act.lapse i)
  have hroute : (s.setRoute i (s.route i).advanceLapse).route i = (s.route i).advanceLapse :=
    State.setRoute_route_self s i _
  unfold State.lapseBoundary
  dsimp only
  split
  · exact hlapse.andThen (Acts.one (Act.retire i (by rw [hroute]; exact h)))
  · split
    · next hdue =>
      have hstarved : (s.route i).state = .starved := by
        simp only [Route.lapseDue, Bool.and_eq_true, beq_iff_eq] at hdue
        exact hdue.1.1
      have hact := Act.enterLapsed (s := s.setRoute i (s.route i).advanceLapse) i (by rw [hroute]; exact hstarved)
      rw [hroute] at hact
      have hset : (s.setRoute i (s.route i).advanceLapse).setRoute i (s.route i).advanceLapse.enterLapsed =
          s.setRoute i (s.route i).advanceLapse.enterLapsed := by
        simp [State.setRoute]
      rw [hset] at hact
      exact hlapse.andThen (Acts.one hact)
    · exact hlapse

theorem Acts.routeBoundary (s : State) (parity : Parity) (i : RouteId) : Acts s (s.routeBoundary parity i) := by
  unfold State.routeBoundary
  split
  · next h => exact Acts.one (Act.running i parity h)
  · next h =>
    unfold State.heldBoundary
    dsimp only
    split
    · next htwo => exact Acts.one (Act.held i h htwo)
    · exact Acts.refl s
  · next h => exact Acts.lapseBoundary s i (Or.inl h)
  · next h => exact Acts.lapseBoundary s i (Or.inr h)
  · next h => exact Acts.one (Act.closing i h)
  · exact Acts.refl s
  · exact Acts.refl s

/-- Actions taken for each member of a list in turn. -/
theorem Acts.foldl {α : Type} (g : State → α → State) (one : ∀ s a, Acts s (g s a)) (l : List α) (s : State) :
    Acts s (l.foldl g s) := by
  induction l generalizing s with
  | nil => exact Acts.refl s
  | cons a l ih => exact (one s a).andThen (ih _)

theorem Acts.boundary (s : State) (t : TimelineId) (h : (s.timeline t).state = .running) : Acts s (s.boundary t) := by
  have hroutes : ∀ u parity, Acts u (State.routesBoundary u t parity) := by
    intro u parity
    refine Acts.foldl _ (fun v i => ?_) _ u
    split
    · exact Acts.routeBoundary v parity i
    · exact Acts.refl v
  have hports : ∀ u parity house, Acts u (State.portsBoundary u t parity house) := by
    intro u parity house
    refine Acts.foldl _ (fun v p => ?_) _ u
    split
    · exact Acts.one (Act.portBoundary p parity house)
    · exact Acts.refl v
  exact (((Acts.one (Act.advance t h)).andThen (hroutes _ _)).andThen (hports _ _ _)).andThen
    (Acts.one (Act.monitorBoundary t _ _))

/-! ## The load (R163 to R170) -/

theorem Acts.applyProfiles (s : State) (body : List Word16) : Acts s (s.applyProfiles body) :=
  Acts.foldl _ (fun u n => (Acts.tryProfileWrite (profileEntry body n) u).andThen (Acts.setResult _ _)) _ s

theorem Acts.applyFeeds (s : State) (body : List Word16) : Acts s (s.applyFeeds body) := by
  refine Acts.foldl _ (fun u n => ?_) _ s
  unfold State.applyFeedEntry
  split
  · exact (Acts.tryFeedSet (feedEntry body n) u).andThen (Acts.setResult _ _)
  · exact Acts.refl u

theorem Acts.applyModule (s : State) (m : ModuleId) : Acts s (s.applyModule m) := by
  cases m with
  | house => exact Acts.one (Act.house _)
  | track => exact Acts.outside _ (State.applyTrack_only s _ ▸ rfl)
  | profile => exact Acts.applyProfiles s _
  | feed => exact Acts.applyFeeds s _
  | preset => exact Acts.one (Act.presets _)

theorem Acts.openPreset (s : State) (n : PresetId) : Acts s (s.openPreset n) := by
  unfold State.openPreset
  split
  · exact Acts.refl s
  · next p hp => exact (Acts.tryOpen (Or.inr ⟨n, p, hp, rfl⟩)).andThen (Acts.setResult _ _)

theorem Acts.testImage (s : State) : Acts s s.testImage := by
  unfold State.testImage
  split
  · exact (Acts.setResult _ _).andThen (Acts.partDone _ _)
  · exact Acts.partDone _ _

theorem Acts.loadPart (s : State) : Acts s s.loadPart := by
  unfold State.loadPart
  split
  · exact Acts.testImage s
  · exact (Acts.applyModule s _).andThen (Acts.partDone _ _)
  · exact Acts.partDone s _
  · exact (Acts.openPreset s _).andThen (Acts.partDone _ _)
  all_goals exact Acts.refl s

theorem Acts.openAll (l : List PresetId) (s : State) : Acts s (openAll l s) := by
  induction l generalizing s with
  | nil => exact Acts.refl s
  | cons n l ih => exact ((Acts.openPreset s n).andThen (Acts.partDone _ _)).andThen (ih _)

theorem Acts.applyAll (l : List ModuleId) (s : State) : Acts s (applyAll l s) := by
  induction l generalizing s with
  | nil => exact (Acts.partDone s _).andThen (Acts.openAll _ _)
  | cons m l ih => exact ((Acts.applyModule s m).andThen (Acts.partDone _ _)).andThen (ih _)

theorem Acts.restOfLoad (s : State) : Acts s s.restOfLoad := by
  have hrest : ∀ u : State, Acts u u.restOfImage := by
    intro u
    unfold State.restOfImage
    split
    · exact Acts.applyAll _ u
    · exact Acts.openAll _ u
    all_goals exact Acts.refl u
  unfold State.restOfLoad
  split
  · exact (Acts.testImage s).andThen (hrest _)
  · exact hrest s

theorem Acts.concludeLoad (s : State) : Acts s s.concludeLoad := by
  unfold State.concludeLoad
  split
  all_goals exact Acts.outside _ rfl

theorem Acts.startTimelines (s : State) (tick : Tick) : Acts s (s.startTimelines tick) :=
  (Acts.one (Act.start .a _ tick _ (validTimecode_zero s.timelineA.standard) rfl)).andThen
    (Acts.one (Act.start .b _ tick _ (validTimecode_zero s.timelineB.standard) rfl))

theorem Acts.endLoad (s : State) (tick : Tick) : Acts s (s.endLoad tick) := by
  have hload := (Acts.restOfLoad s).andThen (Acts.concludeLoad _)
  unfold State.endLoad
  dsimp only
  split
  · exact (hload.andThen (Acts.startTimelines _ tick)).andThen (Acts.outside _ rfl)
  · exact hload.andThen (Acts.outside _ rfl)

/-! ## Every step -/

theorem Acts.windowWrite (s : State) (address : BitVec 11) (value : Word) : Acts s (s.windowWrite address value) := by
  have hindex : ∀ cu, Acts s (State.evaluateUnlessStopped { s with cu := cu }) := fun cu =>
    (Acts.outside { s with cu := cu } rfl).andThen (Acts.evaluateUnlessStopped _)
  unfold State.windowWrite State.writeControl State.controlResetWrite
  split_ifs
  · exact Acts.outside _ rfl
  · exact Acts.outside _ rfl
  · exact hindex _
  · exact hindex _
  · exact Acts.refl s
  · exact Acts.one Act.controlReset
  · exact hindex _
  · exact Acts.refl s
  · exact Acts.refl s

theorem exec_acts (i : Instr) (s t : State) (h : exec i s = .next t) : Acts s t := by
  have hindex : ∀ cu, Acts s (State.evaluateUnlessStopped { s with cu := cu }) := fun cu =>
    (Acts.outside { s with cu := cu } rfl).andThen (Acts.evaluateUnlessStopped _)
  cases i <;> cases h
  case powerOnReset pin => exact Acts.one (Act.powerOn pin)
  case controlReset =>
    unfold State.controlResetWrite
    split
    · exact Acts.refl s
    · exact Acts.one Act.controlReset
  case ringReset => exact hindex _
  case commandWriteIndexWrite => exact (hindex _).andThen (Acts.notify _)
  case replyReadIndexWrite => exact (hindex _).andThen (Acts.notify _)
  case controlWindowWrite => exact (Acts.windowWrite s _ _).andThen (Acts.notify _)
  case routeOpen => exact Acts.take fun args => Acts.routeOpen args s
  case routeAlter => exact Acts.take fun args => Acts.routeAlter args s
  case routeClose => exact Acts.take fun args => Acts.routeClose args s
  case routeRead => exact Acts.take fun args => Acts.routeRead args s
  case routeHold => exact Acts.take fun args => Acts.routeHold args s
  case routeRelease => exact Acts.take fun args => Acts.routeRelease args s
  case routeTrim => exact Acts.take fun args => Acts.routeTrim args s
  case presetOpen => exact Acts.take fun args => Acts.presetOpen args s
  case feedSet => exact Acts.take fun args => Acts.tryFeedSet _ s
  case feedRead => exact Acts.take fun args => Acts.feedRead args s
  case trackSet => exact Acts.take fun args => Acts.trackSet args s
  case profileWrite => exact Acts.take fun args => Acts.tryProfileWrite _ s
  case profileRead => exact Acts.take fun args => (profileRead_only args s).symm ▸ Acts.refl s
  case timelineSet tick => exact Acts.take fun args => Acts.timelineSet tick args s
  case timelineRead => exact Acts.take fun args => Acts.timelineRead args s
  case portSet => exact Acts.take fun args => Acts.portSet args s
  case portMute => exact Acts.take fun args => Acts.portMute args s
  case referenceSet => exact Acts.take fun args => Acts.outside _ rfl
  case monitorSet => exact Acts.take fun args => Acts.monitorSet args s
  case checkSet => exact Acts.take fun args => Acts.checkSet args s
  case eventsTake => exact Acts.take fun args => Acts.eventsTake args s
  case notifySet => exact Acts.take fun args => Acts.notifySet args s
  case deviceRead => exact Acts.take fun args => Acts.refl s
  case referencePulse => exact Acts.outside _ rfl
  case referenceAbsence =>
    split
    · exact Acts.outside _ rfl
    · exact Acts.refl s
  case outputBoundary t =>
    split
    · next hrunning => exact (Acts.boundary s t hrunning).andThen (Acts.notify _)
    · exact Acts.refl s
  case outputLine o => exact (Acts.one (Act.line o)).andThen (Acts.notify _)
  case pictureStart f tick bottom => exact (Acts.pictureStart s f tick bottom).andThen (Acts.notify _)
  case activeLine f pels => exact Acts.one (Act.activeLine f pels)
  case ancillaryPacket f p => exact Acts.one (Act.packet f p)
  case pictureTimecode f tc => exact Acts.one (Act.timecodeIn f tc)
  case pictureEnd f => exact (Acts.pictureEnd s f).andThen (Acts.notify _)
  case silenceExpiry f => exact (Acts.silenceExpiry s f).andThen (Acts.notify _)
  case flashRead => exact Acts.outside _ rfl
  case loadEnd tick =>
    split
    · exact (Acts.endLoad s tick).andThen (Acts.notify _)
    · exact Acts.refl s

/-- A step is elementary actions one after the other. -/
theorem step_acts (s t : State) (h : step s = .next t) : Acts s t := by
  unfold step at h
  split at h
  · cases h
    exact Acts.loadPart s
  · next c rest _ =>
    exact (Acts.outside { s with pending := rest } rfl).andThen (exec_acts c _ t h)

/-- A law that each elementary action keeps is kept by every step. -/
theorem step_keeps {P : State → Prop} (one : ∀ s t, Act s t → P s → P t) (s t : State) (hs : P s)
    (h : step s = .next t) : P t :=
  (step_acts s t h).keeps one hs

end Sys2Proof.Machine

/-! What each elementary action leaves as it was. -/

namespace Sys2Proof.Machine

theorem State.portBoundary_only (s : State) (p : PortId) (parity : Parity) (house : Option Timecode) :
    s.portBoundary p parity house =
      { s with
        routes := (s.portBoundary p parity house).routes, ports := (s.portBoundary p parity house).ports } := by
  unfold State.portBoundary State.portContent
  split
  · unfold State.carryRoute
    dsimp only
    split <;> rfl
  · rfl

theorem State.monitorBoundary_only (s : State) (t : TimelineId) (parity : Parity) (house : Option Timecode) :
    s.monitorBoundary t parity house =
      { s with
        monitor := (s.monitorBoundary t parity house).monitor
        slots := (s.monitorBoundary t parity house).slots } := by
  unfold State.monitorBoundary State.monitorContent State.monitorFeedBoundary
  split
  · split
    · rfl
    · rfl
    · split <;> rfl
  · rfl

theorem State.outputLine_only (s : State) (o : OutputId) :
    s.outputLine o =
      { s with
        routes := (s.outputLine o).routes, ports := (s.outputLine o).ports, monitor := (s.outputLine o).monitor } := by
  cases o
  · unfold State.outputLine State.portLine
    dsimp only
    split
    · rfl
    · split <;> rfl
  · unfold State.outputLine State.monitorLine
    dsimp only
    repeat' split
    all_goals rfl

theorem State.endFlight_only (s : State) (f : FeedId) (st : Standard) :
    s.endFlight f st =
      { s with
        feeds := (s.endFlight f st).feeds, feedPorts := (s.endFlight f st).feedPorts
        slots := (s.endFlight f st).slots, routes := (s.endFlight f st).routes
        monitor := (s.endFlight f st).monitor } := by
  unfold State.endFlight State.offer
  dsimp only
  generalize verdictOf st _ _ = v
  generalize matchFlag st _ _ _ _ = b
  rw [State.judgeFeed_only, State.overRoutes_only, State.offerMonitorAny_only]
  rfl

/-! ## Records of routes -/

theorem State.route_eq_of_routes_eq {s t : State} (h : t.routes = s.routes) (j : RouteId) : t.route j = s.route j := by
  simp only [State.route, h]

/-- A port's boundary moves a record's picture and its last dominant sequence number alone (R114, R126). -/
theorem State.portBoundary_route (s : State) (p : PortId) (parity : Parity) (house : Option Timecode) (j : RouteId) :
    (s.portBoundary p parity house).route j =
      { s.route j with
        picture := ((s.portBoundary p parity house).route j).picture
        lastDominant := ((s.portBoundary p parity house).route j).lastDominant } := by
  have hcarry : ∀ (u : State) (i : RouteId) (r : Route) (a : Port),
      r = { u.route i with picture := r.picture, lastDominant := r.lastDominant } →
      ((u.setRoute i r).setPort p a).route j =
        { u.route j with
          picture := (((u.setRoute i r).setPort p a).route j).picture
          lastDominant := (((u.setRoute i r).setPort p a).route j).lastDominant } := by
    intro u i r a hr
    have hroute : ((u.setRoute i r).setPort p a).route j = if i = j then r else u.route j :=
      State.setRoute_route u i j r
    rw [hroute]
    split
    · next hij => rw [← hij]; exact hr
    · rfl
  unfold State.portBoundary State.portContent
  split
  · unfold State.carryRoute
    dsimp only
    split
    · exact hcarry _ _ _ _ rfl
    · exact hcarry _ _ _ _ rfl
    · exact hcarry _ _ _ _ rfl
  · rfl

theorem Route.produce_frame (r : Route) (pic : Picture) (clamped : Bool) :
    r.produce pic clamped =
      { r with
        picture := (r.produce pic clamped).picture, counters := (r.produce pic clamped).counters
        events := (r.produce pic clamped).events } := by
  unfold Route.produce Route.countClip
  split <;> rfl

/-- An output line moves a record's picture, counters and pending events alone (R106, R112). -/
theorem State.outputLine_route (s : State) (o : OutputId) (j : RouteId) :
    (s.outputLine o).route j =
      { s.route j with
        picture := ((s.outputLine o).route j).picture, counters := ((s.outputLine o).route j).counters
        events := ((s.outputLine o).route j).events } := by
  cases o with
  | monitor =>
    have hroutes : (s.outputLine .monitor).routes = s.routes := by
      unfold State.outputLine State.monitorLine
      dsimp only
      repeat' split
      all_goals rfl
    rw [State.route_eq_of_routes_eq hroutes]
  | port p =>
    unfold State.outputLine State.portLine
    dsimp only
    split
    · rfl
    · split
      · rfl
      · next i _ _ pic _ =>
        generalize lineClamped _ = clamped
        have hroute : ∀ line, (((s.setRoute i ((s.route i).produce pic clamped)).sendLine p line).route j) =
            if i = j then (s.route i).produce pic clamped else s.route j :=
          fun line => State.setRoute_route s i j _
        rw [hroute]
        split
        · next hij => rw [← hij]; exact Route.produce_frame _ _ _
        · rfl

/-! ## All records changed by one rule -/

/-- A change of every record that reads the slots nowhere gives each record the change of its own (R11). -/
theorem State.overRoutes_route (g : RouteId → Route → SlotTable → Route × SlotTable) (h : RouteId → Route → Route)
    (hg : ∀ i r t, (g i r t).1 = h i r) (s : State) (j : RouteId) :
    (s.overRoutes g).route j = h j (s.route j) := by
  have hfold : ∀ (l : List RouteId) (routes : RouteTable) (slots : SlotTable), l.Nodup →
      tget (l.foldl (fun acc i =>
        let res := g i (tget acc.1 i) acc.2
        (tset acc.1 i res.1, res.2)) (routes, slots)).1 j =
        if j ∈ l then h j (tget routes j) else tget routes j := by
    intro l
    induction l with
    | nil => intro routes slots _; simp
    | cons i l ih =>
      intro routes slots hnodup
      obtain ⟨hi, hl⟩ := List.nodup_cons.mp hnodup
      rw [List.foldl_cons, ih _ _ hl, hg, tget_tset]
      by_cases hij : i = j
      · subst hij
        simp [hi]
      · simp [hij, Ne.symm hij]
  have hall := hfold (List.finRange 16) s.routes s.slots (List.nodup_finRange 16)
  rw [if_pos (List.mem_finRange j)] at hall
  exact hall

/-- What feed loss makes of a record (R66). -/
def Route.afterLoss (f : FeedId) (r : Route) : Route :=
  if r.feed = f ∧ (r.state = .priming ∨ r.state = .running) then r.starve else r

/-- What a feed's return makes of a record (R67). -/
def Route.afterReturn (f : FeedId) (r : Route) : Route :=
  if r.feed = f ∧ (r.state = .starved ∨ r.state = .lapsed) then r.recover
  else if r.feed = f ∧ r.state = .held then r.flush
  else r

theorem Route.feedLost_fst (f : FeedId) (i : RouteId) (r : Route) (t : SlotTable) :
    (Route.feedLost f i r t).1 = r.afterLoss f := by
  unfold Route.feedLost Route.afterLoss
  split <;> rfl

theorem Route.feedBack_fst (f : FeedId) (i : RouteId) (r : Route) (t : SlotTable) :
    (Route.feedBack f i r t).1 = r.afterReturn f := by
  unfold Route.feedBack Route.afterReturn
  split
  · rfl
  · split <;> rfl

/-- What a change of a feed's state makes of a record (R31, R66, R67). -/
def Route.afterChange (f : FeedId) (old new : FeedState) (r : Route) : Route :=
  if old = new then r
  else if new.gone then r.afterLoss f
  else if new = .acquire ∧ old.gone then r.afterReturn f
  else r

theorem State.feedChanged_route (s : State) (f : FeedId) (old new : FeedState) (j : RouteId) :
    (s.feedChanged f old new).route j = (s.route j).afterChange f old new := by
  unfold State.feedChanged Route.afterChange
  split
  · rfl
  · split
    · exact State.overRoutes_route _ _ (Route.feedLost_fst f) s j
    · split
      · exact State.overRoutes_route _ _ (Route.feedBack_fst f) s j
      · rfl

/-- What a picture end makes of a record before its feed's state moves (R28, R94, R78). -/
def Route.afterPicture (f : FeedId) (st : Standard) (seq : BitVec 32) (matched : Bool) (offer : Option SlotId)
    (r : Route) : Route :=
  if r.feed = f ∧ r.state.taking then
    match offer, (r.cadenceStep st matched).2 with
    | some k, true => ((r.cadenceStep st matched).1.admitEntry k seq).enterRunning
    | _, _ => (r.cadenceStep st matched).1
  else r

theorem Route.pictureEnd_fst (f : FeedId) (st : Standard) (seq : BitVec 32) (matched : Bool) (offer : Option SlotId)
    (i : RouteId) (r : Route) (t : SlotTable) :
    (Route.pictureEnd f st seq matched offer i r t).1 = r.afterPicture f st seq matched offer := by
  unfold Route.pictureEnd Route.afterPicture
  dsimp only
  split
  · cases offer with
    | none => rfl
    | some k => cases (r.cadenceStep st matched).2 <;> rfl
  · rfl

/-! ## The end of a picture in flight (R27, R28) -/

/-- The verdict of a feed's picture in flight at its end (R27). -/
def State.verdict (s : State) (f : FeedId) (st : Standard) : Verdict :=
  verdictOf st (s.feedPort f).lineCount (s.feed f).measurement

/-- The match flag of a feed's picture in flight at its end (R21). -/
def State.matched (s : State) (f : FeedId) (st : Standard) : Bool :=
  matchFlag st (s.feed f).threshold (s.feedPort f).refs (paddedGrid (s.feedPort f).rows) (s.feedPort f).lineCount

/-- The feed's record once its picture is counted (R27). -/
def State.counted (s : State) (f : FeedId) (st : Standard) : Feed :=
  (s.feed f).endPicture (s.verdict f st) (decide ((s.feedPort f).lineCount ≠ st.lines))

/-- The feed's record after its picture's end (R28 to R32). -/
def State.judged (s : State) (f : FeedId) (st : Standard) : Feed :=
  ((s.counted f st).filter (s.trackConstant (s.counted f st)) (s.verdict f st) (s.feed f).measurement).applyVerdict st
    (s.verdict f st)

theorem Feed.endPicture_state (f : Feed) (v : Verdict) (damaged : Bool) : (f.endPicture v damaged).state = f.state := by
  unfold Feed.endPicture
  dsimp only
  split <;> rfl

/-- The part of a picture end before the feed's state moves: the picture is closed and offered. -/
def State.offered (s : State) (f : FeedId) (st : Standard) : State :=
  (s.closePicture f st (s.verdict f st)).offer f st (s.feed f).flightSeq (s.matched f st)
    (offeredSlot (s.feed f).writing (s.verdict f st))

theorem State.endFlight_eq (s : State) (f : FeedId) (st : Standard) :
    s.endFlight f st =
      { (s.offered f st).judgeFeed f st (s.verdict f st) (s.feed f).measurement with
        slots := SlotTable.settleAny
          ((s.offered f st).judgeFeed f st (s.verdict f st) (s.feed f).measurement).slots
          (offeredSlot (s.feed f).writing (s.verdict f st)) } := rfl

theorem State.offered_only (s : State) (f : FeedId) (st : Standard) :
    s.offered f st =
      { s.closePicture f st (s.verdict f st) with
        routes := (s.offered f st).routes, slots := (s.offered f st).slots, monitor := (s.offered f st).monitor } := by
  unfold State.offered State.offer
  rw [State.overRoutes_only, State.offerMonitorAny_only]

theorem State.offered_feed (s : State) (f : FeedId) (st : Standard) (g : FeedId) :
    (s.offered f st).feed g = if f = g then s.counted f st else s.feed g := by
  rw [State.offered_only]
  exact State.setFeed_feed s f g _

/-- The feed's record after a verdict (R28 step 3). -/
def State.newFeed (s : State) (f : FeedId) (st : Standard) (v : Verdict) (m : Option Tick) : Feed :=
  ((s.feed f).filter (s.trackConstant (s.feed f)) v m).applyVerdict st v

theorem State.judgeFeed_eq (s : State) (f : FeedId) (st : Standard) (v : Verdict) (m : Option Tick) :
    s.judgeFeed f st v m =
      (s.setFeed f (s.newFeed f st v m)).feedChanged f (s.feed f).state (s.newFeed f st v m).state := rfl

theorem State.judgeFeed_feed (s : State) (f : FeedId) (st : Standard) (v : Verdict) (m : Option Tick) (g : FeedId) :
    (s.judgeFeed f st v m).feed g = if f = g then s.newFeed f st v m else s.feed g := by
  rw [State.judgeFeed_eq, ← State.setFeed_feed]
  simp only [State.feed, State.feedChanged_feeds]

theorem State.judgeFeed_route (s : State) (f : FeedId) (st : Standard) (v : Verdict) (m : Option Tick) (j : RouteId) :
    (s.judgeFeed f st v m).route j = (s.route j).afterChange f (s.feed f).state (s.newFeed f st v m).state := by
  rw [State.judgeFeed_eq, State.feedChanged_route]
  rfl

theorem State.offered_newFeed (s : State) (f : FeedId) (st : Standard) :
    (s.offered f st).newFeed f st (s.verdict f st) (s.feed f).measurement = s.judged f st := by
  have hself : (s.offered f st).feed f = s.counted f st := by rw [State.offered_feed, if_pos rfl]
  have hconst : (s.offered f st).trackConstant (s.counted f st) = s.trackConstant (s.counted f st) := by
    rw [State.offered_only]; rfl
  unfold State.newFeed State.judged
  rw [hself, hconst]

theorem State.endFlight_feed (s : State) (f : FeedId) (st : Standard) (g : FeedId) :
    (s.endFlight f st).feed g = if f = g then s.judged f st else s.feed g := by
  have hjudge : (s.endFlight f st).feed g =
      ((s.offered f st).judgeFeed f st (s.verdict f st) (s.feed f).measurement).feed g := by
    rw [State.endFlight_eq]; rfl
  rw [hjudge, State.judgeFeed_feed, State.offered_newFeed, State.offered_feed]
  split <;> rfl

theorem State.offered_route (s : State) (f : FeedId) (st : Standard) (j : RouteId) :
    (s.offered f st).route j =
      (s.route j).afterPicture f st (s.feed f).flightSeq (s.matched f st)
        (offeredSlot (s.feed f).writing (s.verdict f st)) := by
  unfold State.offered State.offer
  rw [State.overRoutes_route _ _ (Route.pictureEnd_fst f st _ _ _), State.offerMonitorAny_only]
  rfl

/-- A picture end's record: what the picture makes of it, then what the feed's change of state does. -/
theorem State.endFlight_route (s : State) (f : FeedId) (st : Standard) (j : RouteId) :
    (s.endFlight f st).route j =
      ((s.route j).afterPicture f st (s.feed f).flightSeq (s.matched f st)
        (offeredSlot (s.feed f).writing (s.verdict f st))).afterChange f (s.feed f).state (s.judged f st).state := by
  have hjudge : (s.endFlight f st).route j =
      ((s.offered f st).judgeFeed f st (s.verdict f st) (s.feed f).measurement).route j := by
    rw [State.endFlight_eq]; rfl
  have hstate : ((s.offered f st).feed f).state = (s.feed f).state := by
    rw [State.offered_feed, if_pos rfl]
    exact Feed.endPicture_state _ _ _
  rw [hjudge, State.judgeFeed_route, State.offered_newFeed, State.offered_route, hstate]

end Sys2Proof.Machine

/-! The laws of the windows and phases (R91) are kept by every step. -/

namespace Sys2Proof.Machine

/-! ## One record -/

theorem State.WindowsOk.of_routes_eq {s t : State} (hs : s.WindowsOk) (h : t.routes = s.routes) : t.WindowsOk := by
  intro i
  simpa only [State.route, h] using hs i

theorem State.WindowsOk.of_routes_tset {s t : State} (hs : s.WindowsOk) {i : RouteId} {r : Route}
    (h : t.routes = tset s.routes i r) (hr : r.WindowOk) : t.WindowsOk := by
  intro j
  simp only [State.route, h, tget_tset]
  split
  · exact hr
  · exact hs j

/-- A record with the state, the window and the phase of a lawful one is lawful. -/
theorem Route.WindowOk.congr {r q : Route} (h : r.WindowOk) (hstate : q.state = r.state)
    (hwindow : q.window = r.window) (hphase : q.phase = r.phase) : q.WindowOk := by
  obtain ⟨low, high, length, running, priming, resting⟩ := h
  constructor <;> simpa only [hstate, hwindow, hphase]

/-- A record with an empty window is lawful in every state but RUNNING. -/
theorem Route.WindowOk.of_empty {r : Route} (low : -262144 ≤ r.phase) (high : r.phase ≤ 196607)
    (hwindow : r.window = []) (hstate : r.state ≠ .running) : r.WindowOk where
  low := low
  high := high
  length := by simp [hwindow]
  running h := absurd h hstate
  priming _ := by simp [hwindow]
  resting _ := hwindow

theorem Route.free_windowOk (g : Fin 16) : (Route.free g).WindowOk :=
  .of_empty (by simp [Route.free]) (by simp [Route.free]) rfl (by simp [Route.free])

theorem Route.hold_windowOk {r : Route} (h : r.WindowOk) : r.hold.WindowOk := by
  have hheld : ∀ q : Route, q.window = r.window → q.phase = r.phase → q.state = .held → q.WindowOk := by
    intro q hwindow hphase hstate
    exact ⟨hphase ▸ h.low, hphase ▸ h.high, hwindow ▸ h.length, by simp [hstate], by simp [hstate], by simp [hstate]⟩
  unfold Route.hold
  split
  case h_5 | h_6 | h_7 => exact h
  all_goals exact hheld _ rfl rfl rfl

/-- A HELD record that goes on is lawful: its window says which state it enters (R69). -/
theorem Route.resume_windowOk {r : Route} (h : r.WindowOk) :
    ({ r with state := if 2 ≤ r.window.length then .running else .priming } : Route).WindowOk := by
  refine ⟨h.low, h.high, h.length, ?_, ?_, ?_⟩ <;> dsimp only <;> split <;> simp <;> omega

theorem Route.clampPhase_bounds (n : Nat) (x : Int) (h2 : 2 ≤ n) (h4 : n ≤ 4) :
    0 ≤ clampPhase n x ∧ clampPhase n x ≤ 196607 := by
  unfold clampPhase clampOf ceiling
  split_ifs <;> dsimp only <;> omega

theorem Route.stepPhase_windowOk {r : Route} (period : Nat) (h : r.WindowOk) (two : 2 ≤ r.window.length) :
    (r.stepPhase period).WindowOk := by
  have hbounds := Route.clampPhase_bounds r.window.length (r.steppedPhase period) two h.length
  refine ⟨?_, hbounds.2, h.length, h.running, h.priming, h.resting⟩
  show -262144 ≤ clampPhase r.window.length (r.steppedPhase period)
  omega

/-! ## What a boundary and a picture end leave of a record -/

theorem Route.countClamp_frame (r : Route) (c : Clamp) :
    r.countClamp c = { r with counters := (r.countClamp c).counters, events := (r.countClamp c).events } := by
  unfold Route.countClamp
  split
  · cases c <;> rfl
  · rfl

theorem Route.check_frame (r : Route) (number : BitVec 32) (step : Nat) :
    r.check number step =
      { r with
        counters := (r.check number step).counters, checker := (r.check number step).checker
        events := (r.check number step).events } := by
  unfold Route.check Route.raiseIf
  split
  · rfl
  · split
    · rfl
    · dsimp only
      split <;> rfl

/-- A RUNNING boundary steps the phase, and moves the pair and what is counted and reported of it (R81 to R88). -/
theorem Route.runBoundary_frame (r : Route) (period : Nat) (profile : Profile) (parity : Parity) (slots : SlotTable) :
    (r.runBoundary period profile parity slots).1 =
      { r.stepPhase period with
        pair := (r.runBoundary period profile parity slots).1.pair
        frozen := (r.runBoundary period profile parity slots).1.frozen
        snapshot := (r.runBoundary period profile parity slots).1.snapshot
        counters := (r.runBoundary period profile parity slots).1.counters
        checker := (r.runBoundary period profile parity slots).1.checker
        events := (r.runBoundary period profile parity slots).1.events
        picture := (r.runBoundary period profile parity slots).1.picture } := by
  unfold Route.runBoundary
  dsimp only
  have hclamp := Route.countClamp_frame (r.stepPhase period) (clampOf r.window.length (r.steppedPhase period))
  generalize (r.stepPhase period).countClamp _ = q at hclamp ⊢
  split
  · dsimp only [Route.select]
    rw [Route.check_frame, hclamp]
  · rw [hclamp]

/-- A picture end's detector moves the cadence part, CADENCE_BREAKS and the pending events (R94 to R98). -/
theorem Route.cadenceStep_frame (r : Route) (st : Standard) (matched : Bool) :
    (r.cadenceStep st matched).1 =
      { r with
        cadence := (r.cadenceStep st matched).1.cadence, counters := (r.cadenceStep st matched).1.counters
        events := (r.cadenceStep st matched).1.events } := by
  unfold Route.cadenceStep Route.raiseIf
  split
  · rfl
  · dsimp only
    repeat' split
    all_goals rfl

theorem appendWindow_length (w : List WindowEntry) (e : WindowEntry) (h : w.length ≤ 4) :
    (appendWindow w e).length = min 4 (w.length + 1) := by
  unfold appendWindow
  split <;> simp <;> omega

theorem Route.admit_windowOk {r : Route} (h : r.WindowOk) (taking : r.state.taking = true) (i : SlotId)
    (seq : BitVec 32) : ((r.admitEntry i seq).enterRunning).WindowOk := by
  obtain ⟨low, high, length, running, priming, resting⟩ := h
  have hlen := appendWindow_length r.window { slot := i, seq := seq, admitNumber := r.nextAdmit } length
  have hphase : -262144 ≤ (r.admitEntry i seq).phase ∧ (r.admitEntry i seq).phase ≤ 196607 := by
    dsimp only [Route.admitEntry, shiftPhase]
    split <;> omega
  have hnot : ¬(r.state = .starved ∨ r.state = .lapsed ∨ r.state = .closing ∨ r.state = .free) := by
    rintro (h | h | h | h) <;> rw [h] at taking <;> exact absurd taking (by decide)
  unfold Route.enterRunning
  split
  · next hp =>
    refine ⟨by simp, by simp, ?_, ?_, by simp, by simp⟩
    · dsimp only [Route.admitEntry]; omega
    · intro _; exact hp.2.ge
  · next hp =>
    refine ⟨hphase.1, hphase.2, ?_, ?_, ?_, fun h => absurd h hnot⟩
    · dsimp only [Route.admitEntry]; omega
    · intro hrun
      have := running hrun
      dsimp only [Route.admitEntry]; omega
    · intro hprim
      have h1 := priming hprim
      have h2 : ¬ (r.admitEntry i seq).window.length = 2 := fun h2 => hp ⟨hprim, h2⟩
      dsimp only [Route.admitEntry] at h2 ⊢; omega

theorem Route.afterPicture_windowOk {r : Route} (h : r.WindowOk) (f : FeedId) (st : Standard) (seq : BitVec 32)
    (matched : Bool) (offer : Option SlotId) : (r.afterPicture f st seq matched offer).WindowOk := by
  have hstep : (r.cadenceStep st matched).1.WindowOk := by
    rw [Route.cadenceStep_frame]
    exact h.congr rfl rfl rfl
  have hstate : (r.cadenceStep st matched).1.state = r.state := by rw [Route.cadenceStep_frame]
  unfold Route.afterPicture
  split
  · next htaking =>
    split
    · exact Route.admit_windowOk hstep (by rw [hstate]; exact htaking.2) _ seq
    · exact hstep
  · exact h

theorem Route.starve_windowOk {r : Route} (h : r.WindowOk) : r.starve.WindowOk :=
  .of_empty h.low h.high rfl (by simp [Route.starve, Route.raise])

theorem Route.recover_windowOk (r : Route) : r.recover.WindowOk :=
  .of_empty (by simp [Route.recover]) (by simp [Route.recover]) rfl (by simp [Route.recover])

theorem Route.flush_windowOk {r : Route} (h : r.WindowOk) (held : r.state = .held) : r.flush.WindowOk :=
  .of_empty h.low h.high rfl (by simp [Route.flush, held])

theorem Route.afterChange_windowOk {r : Route} (h : r.WindowOk) (f : FeedId) (old new : FeedState) :
    (r.afterChange f old new).WindowOk := by
  unfold Route.afterChange Route.afterLoss Route.afterReturn
  split_ifs with _ _ _ _ _ hheld
  · exact h
  · exact Route.starve_windowOk h
  · exact h
  · exact Route.recover_windowOk r
  · exact Route.flush_windowOk h hheld.2
  · exact h
  · exact h

/-! ## Every action -/

theorem Act.keeps_windows {s t : State} (h : Act s t) (hs : s.WindowsOk) : t.WindowsOk := by
  have unchanged : ∀ {u : State}, u.routes = s.routes → u.WindowsOk := hs.of_routes_eq
  have only : ∀ {u v : State}, u = v → v.routes = s.routes → u.WindowsOk := fun h h' => unchanged (by rw [h, h'])
  have record : ∀ {u : State} (i : RouteId) {r : Route}, u.routes = tset s.routes i r → r.WindowOk → u.WindowsOk :=
    fun i _ => hs.of_routes_tset
  cases h with
  | outside _ h => exact unchanged (by rw [h])
  | powerOn => exact fun i => by simpa [State.route, State.powerOn, State.reset] using Route.free_windowOk 0
  | controlReset => exact fun i => by simpa [State.route, State.controlReset] using Route.free_windowOk _
  | openRoute i =>
    exact record i rfl (.of_empty (by simp [openedRoute]) (by simp [openedRoute]) rfl (by simp [openedRoute]))
  | alter i => exact record i rfl ((hs i).congr rfl rfl rfl)
  | trim i => exact record i rfl ((hs i).congr rfl rfl rfl)
  | mark i _ h => exact record i rfl ((hs i).congr (by rw [h]) (by rw [h]) (by rw [h]))
  | hold i => exact record i rfl (Route.hold_windowOk (hs i))
  | resume i => exact record i rfl (Route.resume_windowOk (hs i))
  | close i =>
    refine record i rfl (.of_empty (hs i).low (hs i).high rfl ?_)
    dsimp only [Route.endLife, Route.closeState]
    split <;> simp
  | starve i => exact record i rfl (Route.starve_windowOk (hs i))
  | recover i => exact record i rfl (Route.recover_windowOk _)
  | flush i held => exact record i rfl (Route.flush_windowOk (hs i) held)
  | cut =>
    intro i
    simp only [State.cutTimeline, State.route, tget_map]
    split
    · exact (hs i).congr rfl rfl rfl
    · exact hs i
  | running i _ running =>
    refine record i rfl ?_
    rw [Route.runBoundary_frame]
    exact (Route.stepPhase_windowOk _ (hs i) ((hs i).running running)).congr rfl rfl rfl
  | held i held two => exact record i rfl (Route.stepPhase_windowOk _ (hs i) two)
  | lapse i => exact record i rfl ((hs i).congr rfl rfl rfl)
  | enterLapsed i starved =>
    exact record i rfl (.of_empty (hs i).low (hs i).high ((hs i).resting (.inl starved))
      (by simp [Route.enterLapsed, Route.raise]))
  | retire i => exact record i rfl (.of_empty (hs i).low (hs i).high rfl (by simp [Route.vacate]))
  | closing i closing =>
    exact record i rfl (.of_empty (hs i).low (hs i).high ((hs i).resting (.inr (.inr (.inl closing))))
      (by simp [Route.vacate]))
  | portBoundary p parity house =>
    intro j
    rw [State.portBoundary_route]
    exact (hs j).congr rfl rfl rfl
  | line o =>
    intro j
    rw [State.outputLine_route]
    exact (hs j).congr rfl rfl rfl
  | endFlight f st =>
    intro j
    rw [State.endFlight_route]
    exact Route.afterChange_windowOk (Route.afterPicture_windowOk (hs j) f st _ _ _) f _ _
  | monitorBoundary => exact only (State.monitorBoundary_only ..) rfl
  | feedSet => exact only (State.applyFeedSet_only ..) rfl
  | abandon => exact only (State.abandon_only ..) rfl
  | store => exact only (State.store_only ..) rfl
  | activeLine => exact only (State.activeLine_only ..) rfl
  | packet => exact only (State.packet_only ..) rfl
  | timecodeIn => exact only (State.timecodeIn_only ..) rfl
  | presets => exact only (State.applyPresets_only ..) rfl
  | house => exact only (State.applyHouse_only ..) rfl
  | setView | profileWrite => exact unchanged rfl
  | start | advance => exact unchanged (State.setTimeline_routes _ _ _)
  | feedMark | portMark | framing | verdictBad | begin | goLost => exact unchanged rfl

/-- Settles O55: a step is elementary actions (`step_acts`), and each of them keeps the laws (`Act.keeps_windows`). -/
theorem stepKeepsWindows : Obligations.StepKeepsWindows := by
  unfold Obligations.StepKeepsWindows
  exact step_keeps fun _ _ => Act.keeps_windows

end Sys2Proof.Machine

/-! Slot records kept but for their states and counts (R38, R44, R49; log 32). -/

namespace Sys2Proof.Machine

/-! ## Tables whose records are kept -/

/-- A Slot Table that keeps each record of another but for its state and counts. -/
def SlotTable.KeepsRecords (t u : SlotTable) : Prop :=
  ∀ k, tget u k = { tget t k with state := (tget u k).state, hold := (tget u k).hold, pin := (tget u k).pin }

theorem SlotTable.KeepsRecords.refl (t : SlotTable) : SlotTable.KeepsRecords t t := fun _ => rfl

theorem SlotTable.KeepsRecords.trans {t u v : SlotTable} (h : SlotTable.KeepsRecords t u)
    (h' : SlotTable.KeepsRecords u v) : SlotTable.KeepsRecords t v := by
  intro k
  rw [h' k, h k]

theorem SlotTable.KeepsRecords.packets {t u : SlotTable} (h : SlotTable.KeepsRecords t u) (k : SlotId) :
    (tget u k).packets = (tget t k).packets := by rw [h k]

theorem Slot.settle_frame (x : Slot) : x.settle = { x with state := x.settle.state } := by
  unfold Slot.settle
  split <;> rfl

theorem SlotTable.keepsRecords_tset {t : SlotTable} {i : SlotId} {x : Slot}
    (h : x = { tget t i with state := x.state, hold := x.hold, pin := x.pin }) :
    SlotTable.KeepsRecords t (tset t i x) := by
  intro k
  rw [tget_tset]
  split
  · next hik => rw [← hik]; exact h
  · rfl

theorem SlotTable.keepsRecords_hold (t : SlotTable) (i : SlotId) : SlotTable.KeepsRecords t (SlotTable.hold t i) :=
  SlotTable.keepsRecords_tset rfl

theorem SlotTable.keepsRecords_unhold (t : SlotTable) (i : SlotId) : SlotTable.KeepsRecords t (SlotTable.unhold t i) :=
  SlotTable.keepsRecords_tset (by rw [Slot.settle_frame])

theorem SlotTable.keepsRecords_release (t : SlotTable) (i : SlotId) :
    SlotTable.KeepsRecords t (SlotTable.release t i) :=
  SlotTable.keepsRecords_tset rfl

theorem SlotTable.keepsRecords_handBack (t : SlotTable) (w : Option SlotId) :
    SlotTable.KeepsRecords t (SlotTable.handBack t w) := by
  cases w
  · exact .refl t
  · exact SlotTable.keepsRecords_release t _

theorem SlotTable.keepsRecords_settleAny (t : SlotTable) (o : Option SlotId) :
    SlotTable.KeepsRecords t (SlotTable.settleAny t o) := by
  cases o
  · exact .refl t
  · exact SlotTable.keepsRecords_tset (by rw [Slot.settle_frame])

theorem SlotTable.keepsRecords_unholdAll (t : SlotTable) (l : List SlotId) :
    SlotTable.KeepsRecords t (SlotTable.unholdAll t l) := by
  intro k
  rw [SlotTable.unholdAll_slot]
  split
  · rw [Slot.settle_frame]
  · rfl

theorem SlotTable.keepsRecords_replacePair (t : SlotTable) (old new : List SlotId) :
    SlotTable.KeepsRecords t (SlotTable.replacePair t old new) := by
  intro k
  rw [SlotTable.replacePair_slot]
  split
  · rw [Slot.settle_frame]
  · split <;> rfl

theorem SlotTable.keepsRecords_releasePair (t : SlotTable) (old : List SlotId) :
    SlotTable.KeepsRecords t (SlotTable.releasePair t old) :=
  SlotTable.keepsRecords_replacePair t old []

theorem dropWindow_keepsRecords (r : Route) (t : SlotTable) : SlotTable.KeepsRecords t (dropWindow r t) :=
  SlotTable.keepsRecords_unholdAll t _

theorem Route.admitPicture_keepsRecords (r : Route) (t : SlotTable) (i : SlotId) (seq : BitVec 32) :
    SlotTable.KeepsRecords t (r.admitPicture t i seq).2 :=
  (SlotTable.keepsRecords_hold t i).trans (SlotTable.keepsRecords_unholdAll _ _)

theorem Route.pictureEnd_keepsRecords (f : FeedId) (st : Standard) (seq : BitVec 32) (matched : Bool)
    (offer : Option SlotId) (i : RouteId) (r : Route) (t : SlotTable) :
    SlotTable.KeepsRecords t (Route.pictureEnd f st seq matched offer i r t).2 := by
  unfold Route.pictureEnd
  split
  · dsimp only
    split
    · exact Route.admitPicture_keepsRecords _ t _ seq
    · exact .refl t
  · exact .refl t

theorem Route.runBoundary_keepsRecords (r : Route) (period : Nat) (profile : Profile) (parity : Parity)
    (t : SlotTable) : SlotTable.KeepsRecords t (r.runBoundary period profile parity t).2 := by
  unfold Route.runBoundary
  dsimp only
  split
  · exact SlotTable.keepsRecords_replacePair t _ _
  · exact .refl t

/-! ## The part -/

theorem State.overRoutes_keepsRecords (s : State) (g : RouteId → Route → SlotTable → Route × SlotTable)
    (h : ∀ i r t, SlotTable.KeepsRecords t (g i r t).2) : SlotTable.KeepsRecords s.slots (s.overRoutes g).slots :=
  State.overRoutes_induct (fun u => SlotTable.KeepsRecords s.slots u.slots) g s (.refl _)
    fun u i hu => hu.trans (h i (u.route i) u.slots)

theorem State.feedChanged_keepsRecords (s : State) (f : FeedId) (old new : FeedState) :
    SlotTable.KeepsRecords s.slots (s.feedChanged f old new).slots := by
  unfold State.feedChanged
  split_ifs
  · exact .refl _
  · refine State.overRoutes_keepsRecords s _ fun i r t => ?_
    unfold Route.feedLost
    split
    · exact dropWindow_keepsRecords r t
    · exact .refl t
  · refine State.overRoutes_keepsRecords s _ fun i r t => ?_
    unfold Route.feedBack
    split_ifs
    · exact dropWindow_keepsRecords r t
    · exact dropWindow_keepsRecords r t
    · exact .refl t
  · exact .refl _

theorem State.abandon_keepsRecords (s : State) (f : FeedId) : SlotTable.KeepsRecords s.slots (s.abandon f).slots := by
  unfold State.abandon
  split
  · exact SlotTable.keepsRecords_handBack _ _
  · exact .refl _

theorem State.applyFeedSet_keepsRecords (s : State) (q : FeedRequest) :
    SlotTable.KeepsRecords s.slots (s.applyFeedSet q).slots := by
  unfold State.applyFeedSet
  dsimp only
  split
  · exact .refl _
  · exact State.abandon_keepsRecords s _

theorem State.setView_keepsRecords (s : State) (view : MonitorView) :
    SlotTable.KeepsRecords s.slots (s.setView view).slots :=
  (SlotTable.keepsRecords_releasePair _ _).trans (SlotTable.keepsRecords_unholdAll _ _)

theorem State.retire_keepsRecords (s : State) (i : RouteId) : SlotTable.KeepsRecords s.slots (s.retire i).slots :=
  (dropWindow_keepsRecords _ _).trans (SlotTable.keepsRecords_releasePair _ _)

theorem State.monitorBoundary_keepsRecords (s : State) (t : TimelineId) (parity : Parity) (house : Option Timecode) :
    SlotTable.KeepsRecords s.slots (s.monitorBoundary t parity house).slots := by
  unfold State.monitorBoundary State.monitorContent State.monitorFeedBoundary
  split
  · split
    · exact .refl _
    · exact .refl _
    · split
      · exact SlotTable.keepsRecords_replacePair _ _ _
      · exact SlotTable.keepsRecords_releasePair _ _
  · exact .refl _

theorem State.offerMonitorAny_keepsRecords (s : State) (f : FeedId) (o : Option SlotId) :
    SlotTable.KeepsRecords s.slots (s.offerMonitorAny f o).slots := by
  unfold State.offerMonitorAny State.offerMonitor
  split
  · split
    · split
      · dsimp only
        split
        · exact (SlotTable.keepsRecords_hold _ _).trans (SlotTable.keepsRecords_unhold _ _)
        · exact SlotTable.keepsRecords_hold _ _
      · exact .refl _
    · exact .refl _
    · exact .refl _
  · exact .refl _

theorem State.judgeFeed_keepsRecords (s : State) (f : FeedId) (st : Standard) (v : Verdict) (m : Option Tick) :
    SlotTable.KeepsRecords s.slots (s.judgeFeed f st v m).slots := by
  have h := State.feedChanged_keepsRecords (s.setFeed f (s.newFeed f st v m)) f (s.feed f).state
    (s.newFeed f st v m).state
  rw [State.setFeed_slots] at h
  rw [State.judgeFeed_eq]
  exact h

theorem State.endFlight_slots (s : State) (f : FeedId) (st : Standard) :
    (s.endFlight f st).slots =
      SlotTable.settleAny ((s.offered f st).judgeFeed f st (s.verdict f st) (s.feed f).measurement).slots
        (offeredSlot (s.feed f).writing (s.verdict f st)) := by
  rw [State.endFlight_eq]

/-- A picture end completes or hands back the slot written; every other change is of states and counts (R44 to R49). -/
theorem State.endFlight_keepsRecords (s : State) (f : FeedId) (st : Standard) :
    SlotTable.KeepsRecords (s.closePicture f st (s.verdict f st)).slots (s.endFlight f st).slots := by
  have hoffer : SlotTable.KeepsRecords (s.closePicture f st (s.verdict f st)).slots (s.offered f st).slots :=
    (State.offerMonitorAny_keepsRecords _ _ _).trans
      (State.overRoutes_keepsRecords _ _ (Route.pictureEnd_keepsRecords f st _ _ _))
  rw [State.endFlight_slots]
  exact (hoffer.trans (State.judgeFeed_keepsRecords _ _ _ _ _)).trans (SlotTable.keepsRecords_settleAny _ _)

end Sys2Proof.Machine

/-! The stacked DRAM (R40), the ancillary lists (R19, R131) and the monitor (R143, R145) through every step. -/

namespace Sys2Proof.Machine

/-! ## The stacked DRAM -/

theorem Act.keeps_memory {s t : State} (h : Act s t) (hs : Memory.wf s.dram) : Memory.wf t.dram := by
  have unchanged : ∀ {u : State}, u.dram = s.dram → Memory.wf u.dram := fun h => by rwa [h]
  have only : ∀ {u v : State}, u = v → v.dram = s.dram → Memory.wf u.dram := fun h h' => unchanged (by rw [h, h'])
  cases h with
  | activeLine f pels =>
    unfold State.activeLine
    split
    · exact hs
    · split
      · unfold storeLine
        dsimp only
        split
        · split
          · exact Memory.write_wf _ _ _ hs
          · exact hs
        · exact hs
      · exact hs
  | outside _ h => exact unchanged (by rw [h])
  | start | advance => exact unchanged (State.setTimeline_dram _ _ _)
  | portBoundary => exact only (State.portBoundary_only ..) rfl
  | monitorBoundary => exact only (State.monitorBoundary_only ..) rfl
  | line => exact only (State.outputLine_only ..) rfl
  | endFlight => exact only (State.endFlight_only ..) rfl
  | feedSet => exact only (State.applyFeedSet_only ..) rfl
  | abandon => exact only (State.abandon_only ..) rfl
  | store => exact only (State.store_only ..) rfl
  | packet => exact only (State.packet_only ..) rfl
  | timecodeIn => exact only (State.timecodeIn_only ..) rfl
  | presets => exact only (State.applyPresets_only ..) rfl
  | house => exact only (State.applyHouse_only ..) rfl
  | _ => exact unchanged rfl

/-! ## Ancillary lists -/

theorem PacketsOk.nil : PacketsOk [] := ⟨by simp, by simp⟩

theorem appendPacket_packetsOk {l : List Packet} (h : PacketsOk l) (p : Packet) : PacketsOk (appendPacket l p) := by
  unfold appendPacket
  split
  · exact h
  · next hp =>
    push Not at hp
    refine ⟨by simp; omega, fun q hq => ?_⟩
    rcases List.mem_append.mp hq with hq | hq
    · exact h.2 q hq
    · rw [List.mem_singleton.mp hq]; exact hp.1

/-- The mapper carries no more packets than it is given, and none of family 0 (R131). -/
theorem outputList_packetsOk {l : List Packet} (h : PacketsOk l) (setting : RouteSetting) (new : Bool) :
    PacketsOk (outputList setting new l) := by
  refine ⟨(List.length_filterMap_le _ _).trans h.1, fun q hq => ?_⟩
  obtain ⟨p, _, hp⟩ := List.mem_filterMap.mp hq
  simpa using (Option.filter_eq_some_iff.mp hp).2

/-- Lists that are as they were stay within their bounds. -/
theorem State.ListsOk.congr {s t : State} (hs : s.ListsOk)
    (feedPorts : ∀ f, (tget t.feedPorts f).packets = (tget s.feedPorts f).packets := by exact fun _ => rfl)
    (slots : SlotTable.KeepsRecords s.slots t.slots := by exact SlotTable.KeepsRecords.refl _)
    (ports : ∀ p, (tget t.ports p).packets = (tget s.ports p).packets := by exact fun _ => rfl)
    (monitor : t.monitor.packets = s.monitor.packets := by rfl) : t.ListsOk where
  feedPorts f := by unfold State.feedPort; rw [feedPorts f]; exact hs.feedPorts f
  slots k := slots.packets k ▸ hs.slots k
  ports p := by unfold State.port; rw [ports p]; exact hs.ports p
  monitor := monitor ▸ hs.monitor

theorem State.ListsOk.powerOn (s : State) (pin : Bool) : (s.powerOn pin).ListsOk where
  feedPorts f := by simp only [State.feedPort, State.powerOn, State.reset, tget_replicate]; exact PacketsOk.nil
  slots k := by simp only [State.slot, State.powerOn, State.reset, tget_replicate]; exact PacketsOk.nil
  ports p := by
    have hport : ((s.powerOn pin).port p).packets = [] := by
      revert p
      show ∀ p : PortId, (tget portsReset p).packets = []
      decide
    rw [hport]
    exact PacketsOk.nil
  monitor := PacketsOk.nil

theorem State.ListsOk.controlReset (s : State) : s.controlReset.ListsOk where
  feedPorts f := by simp only [State.feedPort, State.controlReset, tget_replicate]; exact PacketsOk.nil
  slots k := by simp only [State.slot, State.controlReset, tget_replicate]; exact PacketsOk.nil
  ports p := by simp only [State.port, State.controlReset, tget_map]; exact PacketsOk.nil
  monitor := PacketsOk.nil

theorem State.ListsOk.cutTimeline {s : State} (hs : s.ListsOk) (t : TimelineId) : (s.cutTimeline t).ListsOk where
  feedPorts := hs.feedPorts
  slots := hs.slots
  ports p := by
    simp only [State.cutTimeline, State.port, tget_map]
    split
    · exact PacketsOk.nil
    · exact hs.ports p
  monitor := by
    unfold State.cutTimeline
    dsimp only
    split
    · exact PacketsOk.nil
    · exact hs.monitor

theorem State.ListsOk.setPort {s : State} (hs : s.ListsOk) {p : PortId} {a : Port} (ha : PacketsOk a.packets) :
    (s.setPort p a).ListsOk where
  feedPorts := hs.feedPorts
  slots := hs.slots
  ports q := by
    rw [State.setPort_port]
    split
    · exact ha
    · exact hs.ports q
  monitor := hs.monitor

theorem State.ListsOk.setRoute {s : State} (hs : s.ListsOk) (i : RouteId) (r : Route) : (s.setRoute i r).ListsOk :=
  hs.congr

theorem State.ListsOk.setFeedPort {s : State} (hs : s.ListsOk) {f : FeedId} {a : FeedPort} (ha : PacketsOk a.packets) :
    (s.setFeedPort f a).ListsOk where
  feedPorts g := by
    rw [State.setFeedPort_feedPort]
    split
    · exact ha
    · exact hs.feedPorts g
  slots := hs.slots
  ports := hs.ports
  monitor := hs.monitor

theorem State.ListsOk.setFeed {s : State} (hs : s.ListsOk) (f : FeedId) (a : Feed) : (s.setFeed f a).ListsOk :=
  hs.congr

theorem State.ListsOk.portBoundary {s : State} (hs : s.ListsOk) (p : PortId) (parity : Parity)
    (house : Option Timecode) : (s.portBoundary p parity house).ListsOk := by
  have hbegin : (s.beginInterval p).ListsOk := hs.setPort (hs.ports p)
  unfold State.portBoundary State.portContent
  split
  · unfold State.carryRoute
    dsimp only
    split
    · exact (hbegin.setRoute _ _).setPort PacketsOk.nil
    · exact (hbegin.setRoute _ _).setPort PacketsOk.nil
    · refine (hbegin.setRoute _ _).setPort ?_
      split
      · exact PacketsOk.nil
      · exact outputList_packetsOk (hbegin.slots _) _ _
  · exact hbegin.setPort PacketsOk.nil

theorem State.ListsOk.monitorBoundary {s : State} (hs : s.ListsOk) (t : TimelineId) (parity : Parity)
    (house : Option Timecode) : (s.monitorBoundary t parity house).ListsOk := by
  refine ⟨fun f => ?_, fun k => ?_, fun p => ?_, ?_⟩
  · rw [State.monitorBoundary_only]; exact hs.feedPorts f
  · exact (State.monitorBoundary_keepsRecords s t parity house).packets k ▸ hs.slots k
  · rw [State.monitorBoundary_only]; exact hs.ports p
  · unfold State.monitorBoundary State.monitorContent State.monitorFeedBoundary State.monitorCopyBoundary
    split
    · split
      · exact PacketsOk.nil
      · exact hs.ports _
      · split
        · exact hs.slots _
        · exact PacketsOk.nil
    · exact hs.monitor

theorem State.ListsOk.outputLine {s : State} (hs : s.ListsOk) (o : OutputId) : (s.outputLine o).ListsOk := by
  have hsend : ∀ {u : State} (p : PortId) (line : List Pel), u.ListsOk → (u.sendLine p line).ListsOk := by
    intro u p line hu
    have hport : (u.setPort p { u.port p with lineOut := line }).ListsOk := hu.setPort (hu.ports p)
    refine hport.congr (monitor := ?_)
    unfold State.sendLine
    dsimp only
    split <;> rfl
  cases o with
  | port p =>
    unfold State.outputLine State.portLine
    dsimp only
    split
    · exact hsend p _ hs
    · split
      · exact hsend p _ hs
      · exact hsend p _ (hs.setRoute _ _)
  | monitor =>
    unfold State.outputLine State.monitorLine
    dsimp only
    repeat' split
    all_goals exact hs.congr

theorem State.ListsOk.store {s : State} (hs : s.ListsOk) (f : FeedId) (st : Standard) (seq : BitVec 32)
    (parity : Parity) : (s.store f st seq parity).ListsOk := by
  unfold State.store
  split
  · split
    · refine ⟨hs.feedPorts, fun k => ?_, hs.ports, hs.monitor⟩
      simp only [State.slot, tget_tset]
      split
      · exact PacketsOk.nil
      · exact hs.slots k
    · exact hs.setFeed _ _
  · exact hs

theorem State.ListsOk.closePicture {s : State} (hs : s.ListsOk) (f : FeedId) (st : Standard) (v : Verdict) :
    (s.closePicture f st v).ListsOk := by
  have hport : ((s.setFeed f ((s.feed f).endPicture v (decide ((s.feedPort f).lineCount ≠ st.lines)))).setFeedPort f
      { s.feedPort f with
        framing := .none, refs := appendReference (s.feedPort f).refs (paddedGrid (s.feedPort f).rows) }).ListsOk :=
    (hs.setFeed _ _).setFeedPort (hs.feedPorts f)
  refine ⟨hport.feedPorts, fun k => ?_, hport.ports, hport.monitor⟩
  show PacketsOk (tget (SlotTable.endWriting s.slots (s.feed f).writing v st (s.feedPort f)) k).packets
  unfold SlotTable.endWriting
  split
  · split
    · rw [tget_tset]
      split
      · exact hs.feedPorts f
      · exact hs.slots k
    · exact (SlotTable.keepsRecords_release s.slots _).packets k ▸ hs.slots k
  · exact hs.slots k

theorem State.offerMonitorAny_packets (s : State) (f : FeedId) (o : Option SlotId) :
    (s.offerMonitorAny f o).monitor.packets = s.monitor.packets := by
  unfold State.offerMonitorAny State.offerMonitor
  repeat' split
  all_goals rfl

theorem State.endFlight_feedPorts (s : State) (f : FeedId) (st : Standard) :
    (s.endFlight f st).feedPorts = (s.closePicture f st (s.verdict f st)).feedPorts := by
  rw [State.endFlight_eq, State.judgeFeed_eq]
  simp only [State.feedChanged_feedPorts, State.setFeed_feedPorts]
  rw [State.offered_only]

theorem State.endFlight_monitor (s : State) (f : FeedId) (st : Standard) :
    (s.endFlight f st).monitor =
      ((s.closePicture f st (s.verdict f st)).offerMonitorAny f
        (offeredSlot (s.feed f).writing (s.verdict f st))).monitor := by
  rw [State.endFlight_eq, State.judgeFeed_eq]
  simp only [State.feedChanged_monitor, State.setFeed_monitor]
  exact State.overRoutes_monitor _ _

theorem State.endFlight_ports (s : State) (f : FeedId) (st : Standard) : (s.endFlight f st).ports = s.ports := by
  rw [State.endFlight_only]

theorem State.ListsOk.endFlight {s : State} (hs : s.ListsOk) (f : FeedId) (st : Standard) :
    (s.endFlight f st).ListsOk := by
  have hclose := hs.closePicture f st (s.verdict f st)
  refine hclose.congr (fun g => ?_) (State.endFlight_keepsRecords s f st) (fun p => ?_) ?_
  · rw [State.endFlight_feedPorts]
  · rw [State.endFlight_ports]; rfl
  · rw [State.endFlight_monitor]
    exact State.offerMonitorAny_packets _ _ _

theorem State.ListsOk.applyFeedSet {s : State} (hs : s.ListsOk) (q : FeedRequest) : (s.applyFeedSet q).ListsOk := by
  refine hs.congr (fun g => ?_) (State.applyFeedSet_keepsRecords s q) (fun p => ?_) ?_
  · unfold State.applyFeedSet
    dsimp only
    split
    · rfl
    · show (((s.abandon q.feedId).setFeedPort q.feedId _).feedPort g).packets = (s.feedPort g).packets
      rw [State.setFeedPort_feedPort, State.abandon_only]
      split
      · next hg => rw [← hg]; rfl
      · rfl
  · rw [State.applyFeedSet_only]
  · rw [State.applyFeedSet_only]

theorem State.ListsOk.abandon {s : State} (hs : s.ListsOk) (f : FeedId) : (s.abandon f).ListsOk :=
  hs.congr (fun g => by rw [State.abandon_only]) (State.abandon_keepsRecords s f)
    (fun p => by rw [State.abandon_only]) (by rw [State.abandon_only])

theorem Act.keeps_lists {s t : State} (h : Act s t) (hs : s.ListsOk) : t.ListsOk := by
  cases h with
  | outside _ h => rw [h]; exact hs.congr
  | powerOn pin => exact State.ListsOk.powerOn s pin
  | controlReset => exact State.ListsOk.controlReset s
  | close | starve | recover | flush => exact hs.congr (slots := dropWindow_keepsRecords _ _)
  | feedSet q => exact hs.applyFeedSet q
  | cut t => exact hs.cutTimeline t
  | start t | advance t => cases t <;> exact hs.congr
  | house body => exact hs.congr (ports := fun p => by simp [State.port, State.applyHouse, Port.setTimeline])
  | portMark p a h => exact hs.setPort (by rw [h]; exact hs.ports p)
  | setView view =>
    exact ⟨hs.feedPorts, fun k => (State.setView_keepsRecords s view).packets k ▸ hs.slots k, hs.ports, PacketsOk.nil⟩
  | running i => exact hs.congr (slots := Route.runBoundary_keepsRecords _ _ _ _ _)
  | enterLapsed => exact hs.congr (slots := SlotTable.keepsRecords_releasePair _ _)
  | retire => exact hs.congr (slots := State.retire_keepsRecords _ _)
  | closing => exact hs.congr (slots := SlotTable.keepsRecords_releasePair _ _)
  | portBoundary p parity house => exact hs.portBoundary p parity house
  | monitorBoundary t parity house => exact hs.monitorBoundary t parity house
  | line o => exact hs.outputLine o
  | framing f => exact hs.setFeedPort (hs.feedPorts f)
  | abandon f => exact hs.abandon f
  | begin => exact (hs.setFeed _ _).setFeedPort PacketsOk.nil
  | store f st seq parity => exact hs.store f st seq parity
  | activeLine f pels =>
    unfold State.activeLine
    split
    · exact hs
    · split
      · exact (hs.setFeedPort (f := f) (a := (s.feedPort f).line _ pels) (hs.feedPorts f)).congr
      · exact hs
  | packet f p =>
    unfold State.packet
    split
    · exact hs.setFeedPort (appendPacket_packetsOk (hs.feedPorts f) p)
    · exact hs
  | timecodeIn f tc =>
    unfold State.timecodeIn
    split
    · exact hs.setFeedPort (hs.feedPorts f)
    · exact hs
  | endFlight f st => exact hs.endFlight f st
  | goLost f => exact (hs.setFeed _ _).setFeedPort (hs.feedPorts f)
  | feedMark | verdictBad => exact hs.setFeed _ _
  | presets body => rw [State.applyPresets_only]; exact hs.congr
  | _ => exact hs.congr

/-! ## The monitor -/

theorem State.MonitorOk.of_monitor_eq {s t : State} (hs : s.MonitorOk) (h : t.monitor = s.monitor) : t.MonitorOk := by
  obtain ⟨latest, pair, picture⟩ := hs
  constructor <;> rw [h] <;> assumption

/-- A monitor without a latest, a pair or a picture is lawful in every view. -/
theorem State.MonitorOk.of_none {t : State} (latest : t.monitor.latest = none) (pair : t.monitor.pair = none)
    (content : t.monitor.content ≠ .picture) : t.MonitorOk where
  latest h := by simp [latest] at h
  pair h := by simp [pair] at h
  picture h := absurd h content

theorem State.MonitorOk.setView (s : State) (view : MonitorView) : (s.setView view).MonitorOk where
  latest h := by
    unfold State.setView at h ⊢
    dsimp only at h ⊢
    split at h
    · next hkeep =>
      unfold MonitorView.sameFeed at hkeep
      split at hkeep
      · exact ⟨_, _, rfl⟩
      · exact absurd hkeep (by simp)
    · simp at h
  pair h := by simp [State.setView] at h
  picture h := by simp [State.setView, Monitor.cut] at h

theorem State.MonitorOk.monitorBoundary {s : State} (hs : s.MonitorOk) (t : TimelineId) (parity : Parity)
    (house : Option Timecode) : (s.monitorBoundary t parity house).MonitorOk := by
  obtain ⟨latest, pair, picture⟩ := hs
  unfold State.monitorBoundary State.monitorContent State.monitorFeedBoundary State.monitorCopyBoundary
  split
  · split
    · exact ⟨latest, pair, by simp [Monitor.carryBlack]⟩
    · exact ⟨latest, pair, by simp⟩
    · next f u hview =>
      split
      · exact ⟨fun _ => ⟨f, u, hview⟩, fun _ => ⟨f, u, hview⟩, fun _ => rfl⟩
      · exact ⟨fun _ => ⟨f, u, hview⟩, by simp, by simp [Monitor.carryBlack]⟩
  · exact ⟨latest, pair, picture⟩

/-- An output line moves the monitor's line and its picture alone (R115, R146). -/
theorem State.outputLine_monitor (s : State) (o : OutputId) :
    (s.outputLine o).monitor =
      { s.monitor with
        lineOut := (s.outputLine o).monitor.lineOut, picture := (s.outputLine o).monitor.picture } := by
  cases o
  · unfold State.outputLine State.portLine State.sendLine
    dsimp only
    repeat' split
    all_goals rfl
  · unfold State.outputLine State.monitorLine
    dsimp only
    repeat' split
    all_goals rfl

theorem State.MonitorOk.outputLine {s : State} (hs : s.MonitorOk) (o : OutputId) : (s.outputLine o).MonitorOk := by
  obtain ⟨latest, pair, picture⟩ := hs
  constructor <;> rw [State.outputLine_monitor] <;> assumption

theorem State.MonitorOk.endFlight {s : State} (hs : s.MonitorOk) (f : FeedId) (st : Standard) :
    (s.endFlight f st).MonitorOk := by
  have hoffer : ((s.closePicture f st (s.verdict f st)).offerMonitorAny f
      (offeredSlot (s.feed f).writing (s.verdict f st))).MonitorOk := by
    unfold State.offerMonitorAny State.offerMonitor
    split
    · split
      · next g u hview =>
        split
        · exact ⟨fun _ => ⟨g, u, hview⟩, hs.pair, hs.picture⟩
        · exact hs.of_monitor_eq rfl
      · exact hs.of_monitor_eq rfl
      · exact hs.of_monitor_eq rfl
    · exact hs.of_monitor_eq rfl
  exact hoffer.of_monitor_eq (State.endFlight_monitor s f st)

theorem Act.keeps_monitor {s t : State} (h : Act s t) (hs : s.MonitorOk) : t.MonitorOk := by
  have unchanged : ∀ {u : State}, u.monitor = s.monitor → u.MonitorOk := hs.of_monitor_eq
  have only : ∀ {u v : State}, u = v → v.monitor = s.monitor → u.MonitorOk := fun h h' => unchanged (by rw [h, h'])
  cases h with
  | outside _ h => exact unchanged (by rw [h])
  | powerOn | controlReset => exact .of_none rfl rfl (by show MonitorContent.black ≠ .picture; decide)
  | cut t =>
    unfold State.cutTimeline
    constructor <;> dsimp only <;> split
    · exact hs.latest
    · exact hs.latest
    · exact hs.pair
    · exact hs.pair
    · simp [Monitor.cut]
    · exact hs.picture
  | setView view => exact State.MonitorOk.setView s view
  | monitorBoundary t parity house => exact hs.monitorBoundary t parity house
  | line o => exact hs.outputLine o
  | endFlight f st => exact hs.endFlight f st
  | start | advance => exact unchanged (State.setTimeline_monitor _ _ _)
  | portBoundary => exact only (State.portBoundary_only ..) rfl
  | feedSet => exact only (State.applyFeedSet_only ..) rfl
  | abandon => exact only (State.abandon_only ..) rfl
  | store => exact only (State.store_only ..) rfl
  | activeLine => exact only (State.activeLine_only ..) rfl
  | packet => exact only (State.packet_only ..) rfl
  | timecodeIn => exact only (State.timecodeIn_only ..) rfl
  | presets => exact only (State.applyPresets_only ..) rfl
  | house => exact only (State.applyHouse_only ..) rfl
  | _ => exact unchanged rfl

/-- Settles O54: a step is elementary actions (`step_acts`), and each of them keeps the three laws. -/
theorem stepKeepsMemoryListsAndMonitor : Obligations.StepKeepsMemoryListsAndMonitor := by
  intro s t h
  exact ⟨fun hs => step_keeps (P := fun u => Memory.wf u.dram) (fun _ _ => Act.keeps_memory) s t hs h,
    fun hs => step_keeps (fun _ _ => Act.keeps_lists) s t hs h,
    fun hs => step_keeps (fun _ _ => Act.keeps_monitor) s t hs h⟩

end Sys2Proof.Machine

/-! The laws of the feed records (R22, R26, R32) through every step. -/

namespace Sys2Proof.Machine

/-! ## The tracked period (R32) -/

/-- A quotient truncated toward zero lies between 0 and its dividend. -/
theorem Int.tdiv_natCast_between (d : Int) (k : Nat) :
    (0 ≤ d → 0 ≤ d.tdiv k ∧ d.tdiv k ≤ d) ∧ (d ≤ 0 → d ≤ d.tdiv k ∧ d.tdiv k ≤ 0) := by
  refine ⟨fun h => ⟨Int.tdiv_nonneg h (Int.natCast_nonneg k), Int.tdiv_le_self _ h⟩, fun h => ?_⟩
  have hneg : d.tdiv k = -((-d).tdiv k) := by rw [Int.neg_tdiv, Int.neg_neg]
  have h1 := Int.tdiv_nonneg (a := -d) (b := k) (by omega) (Int.natCast_nonneg k)
  have h2 := Int.tdiv_le_self (a := -d) (k : Int) (by omega)
  omega

/-- E moved toward a measurement stays in every range that holds both (R32). -/
theorem trackedPeriod_between (e k lo hi : Nat) (m : Tick) (hlo : lo ≤ e) (hhi : e ≤ hi) (mlo : lo ≤ 256 * m.toNat)
    (mhi : 256 * m.toNat ≤ hi) : lo ≤ trackedPeriod e k m ∧ trackedPeriod e k m ≤ hi := by
  unfold trackedPeriod
  obtain ⟨hpos, hneg⟩ := Int.tdiv_natCast_between ((256 * m.toNat : Int) - e) k
  rcases le_total ((256 * m.toNat : Int) - e) 0 with h | h
  · have := hneg h; omega
  · have := hpos h; omega

/-! ## One record -/

/-- The fields that the laws of a feed record speak of are as in a lawful record. -/
theorem Feed.RecordOk.congr {f g : Feed} (h : f.RecordOk) (standard : g.standard = f.standard := by rfl)
    (state : g.state = f.state := by rfl) (period : g.period = f.period := by rfl)
    (profile : g.profile = f.profile := by rfl) (goodRun : g.goodRun = f.goodRun := by rfl)
    (rejectRun : g.rejectRun = f.rejectRun := by rfl) (badRun : g.badRun = f.badRun := by rfl)
    (lastStart : g.lastStart = f.lastStart := by rfl) (inFlight : g.inFlight = f.inFlight := by rfl)
    (measurement : g.measurement = f.measurement := by rfl) : g.RecordOk := by
  obtain ⟨h1, h2, h3, h4, h5, h6, h7, h8, h9, h10⟩ := h
  constructor <;> simpa only [standard, state, period, profile, goodRun, rejectRun, badRun, lastStart, inFlight,
    measurement]

theorem Feed.reset_recordOk : Feed.reset.RecordOk := by
  constructor <;> simp [Feed.reset]

theorem Feed.RecordOk.atRest {f g : Feed} (h : f.RecordOk) (standard : g.standard = f.standard := by rfl)
    (state : g.state = f.state := by rfl) (period : g.period = f.period := by rfl)
    (profile : g.profile = f.profile := by rfl) (goodRun : g.goodRun = f.goodRun := by rfl)
    (rejectRun : g.rejectRun = f.rejectRun := by rfl) (badRun : g.badRun = f.badRun := by rfl)
    (lastStart : g.lastStart = f.lastStart := by rfl) (inFlight : g.inFlight = false := by rfl)
    (measurement : g.measurement = none := by rfl) : g.RecordOk := by
  have hrest : ({ f with inFlight := false, measurement := none } : Feed).RecordOk := by
    obtain ⟨h1, h2, h3, h4, h5, h6, h7, h8, _, _⟩ := h
    exact ⟨h1, h2, h3, h4, h5, h6, h7, h8, by simp, by simp⟩
  exact hrest.congr standard state period profile goodRun rejectRun badRun lastStart inFlight measurement

theorem nominal_in_range (st : Standard) :
    256 * (st.nominal - st.nominal / 16) ≤ 256 * st.nominal ∧
      256 * st.nominal ≤ 256 * (st.nominal + st.nominal / 16) := by omega

theorem Feed.configure_recordOk {f : Feed} (h : f.RecordOk) (q : FeedRequest) :
    ((f.configure q).pinNominal).RecordOk := by
  obtain ⟨h1, h2, h3, h4, h5, h6, h7, h8, h9, h10⟩ := h
  have hprofile : (f.configure q).profile = .track ∨ (f.configure q).profile = .nominal := by
    cases (f.configure q).profile <;> simp
  have hstandard : (f.configure q).standard = f.standard := rfl
  unfold Feed.pinNominal
  split
  · next st _ hst =>
    rw [hstandard] at hst
    have hrange := nominal_in_range st
    refine ⟨h1, by simp [Feed.atNominal, hstandard, hst], ?_, ?_, h5, h6, h7, h8, h9, h10⟩
    all_goals
      simp only [Feed.atNominal, hstandard, hst, Standard.nominalPeriod, Option.some.injEq]
      rintro _ rfl
    · exact hrange
    · exact fun _ => rfl
  · next hst =>
    rw [hstandard] at hst
    refine ⟨h1, fun _ => rfl, ?_, ?_, h5, h6, h7, h8, h9, h10⟩ <;> simp [hstandard, hst]
  · next hp => exact ⟨h1, h2, h3, by simp [hp], h5, h6, h7, h8, h9, h10⟩

theorem Feed.raiseChange_frame (f : Feed) (old : FeedState) :
    f.raiseChange old = { f with events := (f.raiseChange old).events } := by
  unfold Feed.raiseChange
  split <;> rfl

/-- A feed restarted with another standard is lawful, its picture in flight abandoned before (R35). -/
theorem Feed.restart_recordOk (f : Feed) (st : Option Standard) (rest : f.inFlight = false) :
    (f.restart st).RecordOk := by
  unfold Feed.restart
  rw [Feed.raiseChange_frame]
  cases st with
  | none => constructor <;> simp [rest]
  | some st =>
    constructor <;> simp [rest, Standard.nominalPeriod]

/-- A verdict keeps the laws of a configured feed; only a good one reads the standard (R29 to R31). -/
theorem Feed.applyVerdict_recordOk {f : Feed} (h : f.RecordOk) (st : Standard) (v : Verdict)
    (hst : v = .good → f.standard = some st) : (f.applyVerdict st v).RecordOk := by
  obtain ⟨h1, h2, h3, h4, h5, h6, h7, h8, h9, h10⟩ := h
  have same : f.RecordOk := ⟨h1, h2, h3, h4, h5, h6, h7, h8, h9, h10⟩
  unfold Feed.applyVerdict
  rw [Feed.raiseChange_frame]
  refine Feed.RecordOk.congr (f := match f.state with
    | .acquire => f.acquireVerdict v
    | .locked => f.lockedVerdict v
    | .mismatch => f.mismatchVerdict st v
    | .unconfigured => f
    | .empty => f
    | .lost => f) ?_
  split
  · next hs =>
    simp only [hs, reduceCtorEq, iff_false, true_or, iff_true] at h1 h8
    unfold Feed.acquireVerdict
    cases v <;> dsimp only
    · split
      · exact ⟨by simp [h1], h2, h3, h4, by simp, by simp, by simp, by simp [h8], h9, h10⟩
      · next hrun =>
        exact ⟨by simp [hs, h1], h2, h3, h4, by dsimp only; omega, h6, by simp, by simp [hs, h8], h9, h10⟩
    · split
      · exact ⟨by simp [h1], h2, h3, h4, by simp, h6, by simp, by simp [h8], h9, h10⟩
      · next hrun =>
        exact ⟨by simp [hs, h1], h2, h3, h4, by simp, h6, by dsimp only; omega, by simp [hs, h8], h9, h10⟩
    · exact same
  · next hs =>
    simp only [hs, reduceCtorEq, iff_false, true_or, or_true, iff_true] at h1 h8
    unfold Feed.lockedVerdict
    cases v <;> dsimp only
    · exact ⟨by simp [hs, h1], h2, h3, h4, h5, by simp, by simp, by simp [hs, h8], h9, h10⟩
    · split
      · exact ⟨by simp [h1], h2, h3, h4, by simp, by simp, by simp, by simp [h8], h9, h10⟩
      · next hrun =>
        exact ⟨by simp [hs, h1], h2, h3, h4, h5, by dsimp only; omega, by simp, by simp [hs, h8], h9, h10⟩
    · exact same
  · next hs =>
    simp only [hs, reduceCtorEq, iff_false, or_true, iff_true] at h1 h8
    unfold Feed.mismatchVerdict
    cases v <;> dsimp only
    · have hst := hst rfl
      have hrange := nominal_in_range st
      refine ⟨by simp [Feed.atNominal, h1], by simp [Feed.atNominal, h1], ?_, ?_, by simp, by simp, by simp,
        by simp [Feed.atNominal, h8], h9, h10⟩
      all_goals
        simp only [Feed.atNominal, hst, Standard.nominalPeriod, Option.some.injEq]
        rintro _ rfl
      · exact hrange
      · exact fun _ => rfl
    · exact same
    · exact same
  all_goals exact same

/-- The period filter keeps the laws where the measurement it follows is in window (R27, R32). -/
theorem Feed.filter_recordOk {f : Feed} (h : f.RecordOk) (k : Nat) (v : Verdict) (m : Option Tick) (st : Standard)
    (hst : f.standard = some st) (hm : ∀ x, v = .good → m = some x → inWindow st x = true) :
    (f.filter k v m).RecordOk := by
  unfold Feed.filter
  split
  · next x =>
    split
    · next htracks =>
      simp only [Feed.tracks, Bool.and_eq_true, beq_iff_eq, Bool.or_eq_true, Bool.not_eq_true'] at htracks
      obtain ⟨⟨⟨hgood, _⟩, hprofile⟩, _⟩ := htracks
      have hwindow := hm x hgood rfl
      simp only [inWindow, Bool.and_eq_true, decide_eq_true_eq] at hwindow
      have hperiod := h.period st hst
      have hnew := trackedPeriod_between f.period k _ _ x hperiod.1 hperiod.2 (by omega) (by omega)
      obtain ⟨h1, h2, h3, h4, h5, h6, h7, h8, h9, h10⟩ := h
      refine ⟨h1, by simp [hst], ?_, by simp [hprofile], h5, h6, h7, h8, h9, h10⟩
      simp only [hst, Option.some.injEq]
      rintro _ rfl
      exact hnew
    · exact h
  · exact h

theorem Feed.start_recordOk {f : Feed} (h : f.RecordOk) (st : Standard) (tick : Tick) (m : Option Tick)
    (hst : f.standard = some st) : ((f.enterAcquire st).takeStart tick m).RecordOk := by
  obtain ⟨h1, h2, h3, h4, h5, h6, h7, h8, h9, h10⟩ := h
  have hstate : f.state ≠ .unconfigured := fun hs => by rw [h1.mpr hs] at hst; cases hst
  have hrange := nominal_in_range st
  unfold Feed.enterAcquire
  split
  · refine ⟨by simp [Feed.takeStart, Feed.raise, Feed.atNominal, hst],
      by simp [Feed.takeStart, Feed.raise, Feed.atNominal, hst],
      ?_, ?_, by simp [Feed.takeStart, Feed.raise], by simp [Feed.takeStart, Feed.raise],
      by simp [Feed.takeStart, Feed.raise], by simp [Feed.takeStart, Feed.raise], fun _ => rfl, fun _ => rfl⟩
    all_goals
      simp only [Feed.takeStart, Feed.raise, Feed.atNominal, hst, Standard.nominalPeriod, Option.some.injEq]
      rintro _ rfl
    · exact hrange
    · exact fun _ => rfl
  · exact ⟨by simp [Feed.takeStart, Feed.raise, hst], h2, h3, h4, by simp [Feed.takeStart, Feed.raise],
      by simp [Feed.takeStart, Feed.raise], by simp [Feed.takeStart, Feed.raise], by simp [Feed.takeStart, Feed.raise],
      fun _ => rfl, fun _ => rfl⟩
  · next hs => exact absurd hs hstate
  all_goals
    next hs => exact ⟨h1, h2, h3, h4, h5, h6, h7, by simp [Feed.takeStart, hs], fun _ => rfl, fun _ => rfl⟩

theorem Feed.goLost_recordOk {f : Feed} (h : f.RecordOk) (runs : f.silenceRuns = true) (rest : f.inFlight = false) :
    f.goLost.RecordOk := by
  obtain ⟨h1, h2, h3, h4, h5, h6, h7, h8, h9, h10⟩ := h
  have hstate : f.state ≠ .unconfigured := by
    intro hs
    simp [Feed.silenceRuns, hs] at runs
  refine ⟨?_, h2, h3, h4, h5, h6, h7, by simp [Feed.goLost, Feed.raise], ?_, by simp [Feed.goLost, Feed.raise]⟩
  · show f.standard = none ↔ FeedState.lost = .unconfigured
    simp [h1, hstate]
  · show f.inFlight = true → _
    simp [rest]

/-! ## The state -/

theorem State.FeedsOk.of_feeds_eq {s t : State} (hs : s.FeedsOk) (h : t.feeds = s.feeds) : t.FeedsOk := by
  intro g
  simpa only [State.feed, h] using hs g

theorem State.FeedsOk.of_feeds_tset {s t : State} (hs : s.FeedsOk) {f : FeedId} {a : Feed}
    (h : t.feeds = tset s.feeds f a) (ha : a.RecordOk) : t.FeedsOk := by
  intro g
  simp only [State.feed, h, tget_tset]
  split
  · exact ha
  · exact hs g

theorem State.FeedsOk.abandon {s : State} (hs : s.FeedsOk) (f : FeedId) : (s.abandon f).FeedsOk := by
  unfold State.abandon
  split
  · exact hs.of_feeds_tset rfl (hs f).atRest
  · exact hs

theorem State.FeedsOk.applyFeedSet {s : State} (hs : s.FeedsOk) (q : FeedRequest) : (s.applyFeedSet q).FeedsOk := by
  unfold State.applyFeedSet
  dsimp only
  split
  · exact hs.of_feeds_tset rfl (Feed.configure_recordOk (hs _) q)
  · exact (hs.abandon q.feedId).of_feeds_tset rfl (Feed.restart_recordOk _ _ (s.abandon_inFlight q.feedId))

theorem State.FeedsOk.store {s : State} (hs : s.FeedsOk) (f : FeedId) (st : Standard) (seq : BitVec 32)
    (parity : Parity) : (s.store f st seq parity).FeedsOk := by
  unfold State.store
  split
  · split
    · exact hs.of_feeds_tset rfl (hs f).congr
    · exact hs.of_feeds_tset rfl (hs f).congr
  · exact hs

theorem Feed.endPicture_recordOk {f : Feed} (h : f.RecordOk) (v : Verdict) (damaged : Bool) :
    (f.endPicture v damaged).RecordOk := by
  unfold Feed.endPicture
  cases damaged
  · exact h.atRest
  · exact h.atRest

theorem Feed.endPicture_standard (f : Feed) (v : Verdict) (damaged : Bool) :
    (f.endPicture v damaged).standard = f.standard := by
  unfold Feed.endPicture
  cases damaged <;> rfl

/-- A good verdict comes with a measurement in window, if with any (R27). -/
theorem verdictOf_good (st : Standard) (lineCount : Nat) (m : Option Tick) (x : Tick)
    (h : verdictOf st lineCount m = .good) (hm : m = some x) : inWindow st x = true := by
  subst hm
  by_contra hwindow
  unfold verdictOf at h
  split at h
  · cases h
  · simp [hwindow] at h

theorem Feed.filter_standard (f : Feed) (k : Nat) (v : Verdict) (m : Option Tick) :
    (f.filter k v m).standard = f.standard := by
  unfold Feed.filter
  split
  · split <;> rfl
  · rfl

theorem State.judged_recordOk {s : State} (hs : s.FeedsOk) (f : FeedId) (st : Standard)
    (hst : (s.feed f).standard = some st) : (s.judged f st).RecordOk := by
  have hcounted : (s.counted f st).standard = some st := (Feed.endPicture_standard _ _ _).trans hst
  exact Feed.applyVerdict_recordOk
    (Feed.filter_recordOk (Feed.endPicture_recordOk (hs f) _ _) _ _ _ st hcounted
      fun x hgood hm => verdictOf_good st _ _ x hgood hm)
    st _ fun _ => (Feed.filter_standard _ _ _ _).trans hcounted

theorem Act.keeps_feeds {s t : State} (h : Act s t) (hs : s.FeedsOk) : t.FeedsOk := by
  have unchanged : ∀ {u : State}, u.feeds = s.feeds → u.FeedsOk := hs.of_feeds_eq
  have only : ∀ {u v : State}, u = v → v.feeds = s.feeds → u.FeedsOk := fun h h' => unchanged (by rw [h, h'])
  have record : ∀ {u : State} (f : FeedId) {a : Feed}, u.feeds = tset s.feeds f a → a.RecordOk → u.FeedsOk :=
    fun f _ => hs.of_feeds_tset
  cases h with
  | outside _ h => exact only h rfl
  | powerOn => exact fun f => by simpa [State.feed, State.powerOn, State.reset] using Feed.reset_recordOk
  | controlReset => exact fun f => by simpa [State.feed, State.controlReset] using Feed.reset_recordOk
  | openRoute i q => exact record q.feedId rfl (hs _).congr
  | close i | retire i => exact record (s.route i).feed rfl (hs _).congr
  | feedMark f a h =>
    exact record f rfl ((hs f).congr (by rw [h]) (by rw [h]) (by rw [h]) (by rw [h]) (by rw [h]) (by rw [h])
      (by rw [h]) (by rw [h]) (by rw [h]) (by rw [h]))
  | feedSet q => exact hs.applyFeedSet q
  | abandon f => exact hs.abandon f
  | verdictBad f st => exact record f rfl (Feed.applyVerdict_recordOk (hs f) st _ (by simp))
  | begin f st tick m parity standard => exact record f rfl (Feed.start_recordOk (hs f) st tick m standard)
  | store f st seq parity => exact hs.store f st seq parity
  | goLost f runs rest => exact record f rfl (Feed.goLost_recordOk (hs f) runs rest)
  | endFlight f st standard =>
    intro g
    rw [State.endFlight_feed]
    split
    · exact State.judged_recordOk hs f st standard
    · exact hs g
  | start | advance => exact unchanged (State.setTimeline_feeds _ _ _)
  | portBoundary => exact only (State.portBoundary_only ..) rfl
  | monitorBoundary => exact only (State.monitorBoundary_only ..) rfl
  | line => exact only (State.outputLine_only ..) rfl
  | activeLine => exact only (State.activeLine_only ..) rfl
  | packet => exact only (State.packet_only ..) rfl
  | timecodeIn => exact only (State.timecodeIn_only ..) rfl
  | presets => exact only (State.applyPresets_only ..) rfl
  | house => exact only (State.applyHouse_only ..) rfl
  | _ => exact unchanged rfl

/-- Settles O57: a step is elementary actions (`step_acts`), and each of them keeps the laws (`Act.keeps_feeds`). -/
theorem stepKeepsFeeds : Obligations.StepKeepsFeeds := by
  unfold Obligations.StepKeepsFeeds
  exact step_keeps fun _ _ => Act.keeps_feeds

end Sys2Proof.Machine

/-! One advance of a timecode value (R2, R3). -/

namespace Sys2Proof.Machine

/-- What a valid timecode of a standard is (R2). -/
theorem Standard.validTimecode_iff (st : Standard) (tc : Timecode) :
    st.validTimecode tc = true ↔
      tc.hours < 24 ∧ tc.minutes < 60 ∧ tc.seconds < 60 ∧ tc.frame < st.frames ∧ tc.drop = st.drop ∧
        (tc.pair = true → st.pairs = true) ∧
        ¬(st.drop = true ∧ tc.seconds = 0 ∧ tc.minutes % 10 ≠ 0 ∧ tc.frame < 2) := by
  unfold Standard.validTimecode
  cases tc.pair <;> cases st.drop <;> simp [and_assoc] <;> intros <;> omega

/-- The drop-counting standards count 30 frames a second, the others 24 or 25 (R2). -/
theorem Standard.drop_frames (st : Standard) :
    (st.drop = true ∧ st.frames = 30) ∨ (st.drop = false ∧ (st.frames = 24 ∨ st.frames = 25)) := by
  cases st <;> decide

theorem Standard.advanceFrame_pair (st : Standard) (tc : Timecode) : (st.advanceFrame tc).pair = false := by
  unfold Standard.advanceFrame
  repeat' split
  all_goals rfl

theorem Standard.advanceFrame_valid (st : Standard) (tc : Timecode) (h : st.validTimecode tc = true) :
    st.validTimecode (st.advanceFrame tc) = true := by
  obtain ⟨hh, hm, hs, hf, hd, hp, hdrop⟩ := (st.validTimecode_iff tc).1 h
  have hframes := st.drop_frames
  rw [Standard.validTimecode_iff]
  unfold Standard.advanceFrame
  split
  · refine ⟨hh, hm, hs, by assumption, rfl, by simp, ?_⟩
    rintro ⟨h1, h2, h3, h4⟩
    exact hdrop ⟨h1, h2, h3, by dsimp only at h4; omega⟩
  split
  · exact ⟨hh, hm, by assumption, by dsimp only; omega, rfl, by simp, by dsimp only; omega⟩
  split
  · refine ⟨hh, by assumption, by simp, ?_, rfl, by simp, ?_⟩ <;> dsimp only [Standard.minuteFrame]
    · split <;> omega
    · rintro ⟨h1, _, h3, h4⟩
      simp [h1, h3] at h4
  · refine ⟨by dsimp only; split <;> omega, by simp, by simp, by dsimp only; omega, rfl, by simp, by simp⟩

/-- How many frames of the day come before a timecode, those that a drop-counting standard leaves out left out (R3). -/
def Standard.dayFrame (st : Standard) (x : Timecode) : Nat :=
  ((x.hours * 60 + x.minutes) * 60 + x.seconds) * st.frames + x.frame -
    (if st.drop then 2 * (x.hours * 60 + x.minutes - (x.hours * 60 + x.minutes) / 10) else 0)

/-- An hour has 6 minutes divisible by 10, which leave no frame out. -/
theorem Standard.dayFrame_eq (st : Standard) (x : Timecode) :
    st.dayFrame x =
      ((x.hours * 60 + x.minutes) * 60 + x.seconds) * st.frames + x.frame -
        (if st.drop then 2 * (x.hours * 60 + x.minutes - (6 * x.hours + x.minutes / 10)) else 0) := by
  have htens : (x.hours * 60 + x.minutes) / 10 = 6 * x.hours + x.minutes / 10 := by omega
  rw [Standard.dayFrame, htens]

/-- An advance steps the frame of the day, and the last one is followed by the first. -/
theorem Standard.dayFrame_advanceFrame (st : Standard) (tc : Timecode) (h : st.validTimecode tc = true) :
    st.dayFrame (st.advanceFrame tc) =
      (st.dayFrame tc + 1) % (86400 * st.frames - (if st.drop then 2 * (1440 - 144) else 0)) := by
  obtain ⟨hh, hm, hs, hf, hd, hp, hdrop⟩ := (st.validTimecode_iff tc).1 h
  have hday : (st.dayFrame (st.advanceFrame tc) = st.dayFrame tc + 1 ∧
        st.dayFrame tc + 1 < 86400 * st.frames - (if st.drop then 2 * (1440 - 144) else 0)) ∨
      (st.dayFrame (st.advanceFrame tc) = 0 ∧
        st.dayFrame tc + 1 = 86400 * st.frames - (if st.drop then 2 * (1440 - 144) else 0)) := by
    rw [Standard.dayFrame_eq, Standard.dayFrame_eq]
    unfold Standard.advanceFrame
    rcases st.drop_frames with ⟨hd, hframes⟩ | ⟨hd, hframes | hframes⟩ <;>
      simp only [hframes, hd, if_true, Bool.false_eq_true, if_false, Standard.minuteFrame, Bool.true_and, true_and,
        Bool.false_and, decide_eq_true_eq] at hf hdrop ⊢ <;> split_ifs <;> dsimp only <;> omega
  rcases hday with ⟨hnext, hlt⟩ | ⟨hnext, heq⟩
  · rw [hnext, Nat.mod_eq_of_lt hlt]
  · rw [hnext, heq, Nat.mod_self]

theorem Standard.advance_of_first (st : Standard) (tc : Timecode) (h : st.validTimecode tc = true)
    (hpairs : st.pairs = true) (hpair : tc.pair = false) : st.advance tc = { tc with pair := true } := by
  obtain ⟨-, -, -, -, hd, -⟩ := (st.validTimecode_iff tc).1 h
  simp [Standard.advance, hpairs, hpair, hd]

theorem Standard.advance_of_last (st : Standard) (tc : Timecode) (h : ¬(st.pairs = true ∧ tc.pair = false)) :
    st.advance tc = st.advanceFrame tc := by
  unfold Standard.advance
  rw [if_neg (by simpa using h)]

theorem Standard.advance_valid (st : Standard) (tc : Timecode) (h : st.validTimecode tc = true) :
    st.validTimecode (st.advance tc) = true := by
  by_cases hfirst : st.pairs = true ∧ tc.pair = false
  · obtain ⟨hh, hm, hs, hf, hd, hp, hdrop⟩ := (st.validTimecode_iff tc).1 h
    rw [st.advance_of_first tc h hfirst.1 hfirst.2, Standard.validTimecode_iff]
    exact ⟨hh, hm, hs, hf, hd, fun _ => hfirst.1, hdrop⟩
  · rw [st.advance_of_last tc hfirst]
    exact st.advanceFrame_valid tc h

/-- Settles O50: an advance marks the second picture of a pair, or moves to the next frame (`advanceFrame_valid`,
`dayFrame_advanceFrame`). -/
theorem timecodeAdvanceCountsFrames : Obligations.TimecodeAdvanceCountsFrames := by
  intro st tc count hvalid hcount
  have hday : ∀ x, count x = st.dayFrame x := hcount
  refine ⟨st.advance_valid tc hvalid, st.advance_of_first tc hvalid, fun hlast => ?_⟩
  have hnot : ¬(st.pairs = true ∧ tc.pair = false) := by rcases hlast with h | h <;> simp [h]
  rw [st.advance_of_last tc hnot, hday, hday]
  exact ⟨st.advanceFrame_pair tc, st.dayFrame_advanceFrame tc hvalid⟩

end Sys2Proof.Machine

/-! ROUTE_OPEN and PRESET_OPEN (R58, R59, R169): the checks of an open in their order, and the record it sets. -/

namespace Sys2Proof.Machine

/-! ## Commands without a change outside the Command Unit -/

/-- A due command whose effect keeps the state: only the Command Unit and the device scope move. -/
theorem take_spec_unchanged {ins : Instr} (k : CmdKind) (effect : List Word → State → State × Reply) (s : State)
    (c : Command) (r : Reply) (hexec : exec ins s = .next (take k effect s)) (hdue : s.dueCommand = some c)
    (hkind : c.kind = k) (heffect : effect c.args s = (s, r)) :
    ∃ t, exec ins s = .next t ∧ t = { s with cu := t.cu, device := t.device } ∧ Taken s t s.device c r :=
  ⟨_, hexec, take_spec k effect s s c r hdue hkind heffect rfl⟩

/-! ## The first failing check (R157) -/

theorem firstFailure_nil : firstFailure [] = .ok := rfl

theorem firstFailure_cons (b : Bool) (st : Status) (l : List (Bool × Status)) :
    firstFailure ((b, st) :: l) = if b then firstFailure l else st := by
  cases b <;> simp [firstFailure]

/-- Every check holds where none fails. -/
theorem firstFailure_ok (l : List (Bool × Status)) (h : firstFailure l = .ok) (hne : ∀ x ∈ l, x.2 ≠ .ok) :
    ∀ x ∈ l, x.1 = true := by
  induction l with
  | nil => simp
  | cons x l ih =>
    obtain ⟨b, st⟩ := x
    rw [firstFailure_cons] at h
    cases b
    · exact absurd (by simpa using h) (hne (false, st) (by simp))
    · intro y hy
      rcases List.mem_cons.1 hy with rfl | hy
      · rfl
      · exact ih h (fun z hz => hne z (List.mem_cons_of_mem _ hz)) y hy

/-! ## The codes of an open setting (12) -/

theorem cadenceOfCode_isSome (n : Nat) : (cadenceOfCode n).isSome = decide (n ≤ 1) := by
  match n with
  | 0 | 1 => rfl
  | n + 2 => simp [cadenceOfCode]

theorem timecodeModeOfCode_isSome (n : Nat) : (timecodeModeOfCode n).isSome = decide (n ≤ 2) := by
  match n with
  | 0 | 1 | 2 => rfl
  | n + 3 => simp [timecodeModeOfCode]

theorem unmappedOfCode_isSome (n : Nat) : (unmappedOfCode n).isSome = decide (n ≤ 2) := by
  match n with
  | 0 | 1 | 2 => rfl
  | n + 3 => simp [unmappedOfCode]

theorem cadenceOfCode_getD (n : Nat) (h : n ≤ 1) : (cadenceOfCode n).getD .off = if n = 1 then .auto else .off := by
  interval_cases n <;> rfl

theorem timecodeModeOfCode_getD (n : Nat) (h : n ≤ 2) :
    (timecodeModeOfCode n).getD .off = if n = 0 then .off else if n = 1 then .source else .house := by
  interval_cases n <;> rfl

theorem unmappedOfCode_getD (n : Nat) (h : n ≤ 2) :
    (unmappedOfCode n).getD .drop = if n = 0 then .drop else if n = 1 then .passOnce else .passEvery := by
  interval_cases n <;> rfl

theorem OpenRequest.mapValid_eq (q : OpenRequest) :
    q.mapValid = decide (∀ e ∈ q.mapEntries, 1 ≤ e.family ∧ e.family ≤ 255 ∧ e.action ≤ 2) := by
  rw [Bool.eq_iff_iff]
  simp [OpenRequest.mapValid, RawMapEntry.valid, and_assoc]

theorem OpenRequest.modesValid_eq (q : OpenRequest) :
    q.modesValid = decide (q.cadence ≤ 1 ∧ q.timecode ≤ 2 ∧ q.unmapped ≤ 2 ∧
      ∀ e ∈ q.mapEntries, 1 ≤ e.family ∧ e.family ≤ 255 ∧ e.action ≤ 2) := by
  unfold OpenRequest.modesValid
  rw [cadenceOfCode_isSome, timecodeModeOfCode_isSome, unmappedOfCode_isSome, q.mapValid_eq]
  simp only [Bool.decide_and, Bool.and_assoc]

theorem OpenRequest.mapFits_eq (q : OpenRequest) :
    q.mapFits = decide (q.mapCount ≤ 8 ∧ q.mapCount ≤ q.entries.length) :=
  (Bool.decide_and _ _).symm

/-! ## Records and ports -/

theorem State.freeRecord_eq_none (s : State) : s.freeRecord = none ↔ ¬∃ i, (s.route i).state = .free := by
  simp [State.freeRecord, List.find?_eq_none]

theorem State.freeRecord_free (s : State) (i : RouteId) (h : s.freeRecord = some i) : (s.route i).state = .free := by
  simpa using List.find?_some h

theorem State.routeOnPort_isSome (s : State) (p : PortId) :
    (s.routeOnPort p).isSome = true ↔ ∃ i, (s.route i).state.live = true ∧ (s.route i).port = p := by
  simp [State.routeOnPort, Route.liveOn]

/-- The first record that a test finds in the table is the lowest-indexed one that passes. -/
theorem List.find?_finRange_eq_some {n : Nat} (p : Fin n → Bool) (i : Fin n) (hi : p i = true)
    (hlow : ∀ j, j < i → p j = false) : (List.finRange n).find? p = some i := by
  cases hfind : (List.finRange n).find? p with
  | none => exact absurd hi (by simpa using List.find?_eq_none.1 hfind i (List.mem_finRange i))
  | some j =>
    have hj : p j = true := List.find?_some hfind
    obtain ⟨-, as, bs, hl, has⟩ := List.find?_eq_some_iff_append.1 hfind
    rcases lt_trichotomy j i with h | h | h
    · exact absurd hj (by simp [hlow j h])
    · rw [h]
    · have hmem : i ∈ as ++ j :: bs := hl ▸ List.mem_finRange i
      have hsorted : (as ++ j :: bs).Pairwise (· < ·) := hl ▸ List.pairwise_lt_finRange n
      rcases List.mem_append.1 hmem with h1 | h1
      · exact absurd hi (by simpa using has i h1)
      · rcases List.mem_cons.1 h1 with h2 | h2
        · rw [h2]
        · have hlt := (List.pairwise_cons.1 (List.pairwise_append.1 hsorted).2.1).1 i h2
          exact absurd hlt (lt_asymm h)

/-! ## The checks of an open (R58) -/

/-- The checks of an open with their statuses, in R58's order. -/
def openChecks (s : State) (q : OpenRequest) : List (Bool × Status) :=
  [(decide (∃ i, (s.route i).state = .free), .noRoute),
   (decide (q.feed < 8), .range),
   (decide ((s.feed q.feedId).standard ≠ none), .feedUnconfigured),
   (decide (q.port < 8), .range),
   (decide (∀ i, (s.route i).state.live = true → (s.route i).port ≠ q.portId), .portTaken),
   (decide ((s.feed q.feedId).standard.map Standard.family = some (s.portStandard q.portId).family), .family),
   (decide (q.profile < 32), .range),
   (decide (s.profile q.profileId ≠ .empty), .profileEmpty),
   (decide (q.mapCount ≤ 8 ∧ q.mapCount ≤ q.entries.length), .range),
   (decide (((q.entries.take q.mapCount).map (fun e => (e.family, e.kind))).Nodup), .mapDuplicate),
   (decide (q.cadence ≤ 1 ∧ q.timecode ≤ 2 ∧ q.unmapped ≤ 2 ∧
      ∀ e ∈ q.entries.take q.mapCount, 1 ≤ e.family ∧ e.family ≤ 255 ∧ e.action ≤ 2), .range)]

theorem openStatus_eq_firstFailure (s : State) (q : OpenRequest) : openStatus s q = firstFailure (openChecks s q) := by
  have hport : ((s.routeOnPort q.portId).isSome = true) =
      ¬∀ i, (s.route i).state.live = true → (s.route i).port ≠ q.portId := by
    simp [State.routeOnPort_isSome]
  have hentries : q.entries.take q.mapCount = q.mapEntries := rfl
  unfold openStatus openChecks
  simp only [firstFailure_cons, firstFailure_nil, hentries, ← q.mapFits_eq, ← q.modesValid_eq, hport,
    State.freeRecord_eq_none, decide_eq_true_eq, ite_not, OpenRequest.mapRepeats, Bool.not_eq_true',
    decide_eq_false_iff_not]
  cases hst : (s.feed q.feedId).standard with
  | none => simp only [← Nat.not_lt, ite_not, ne_eq, if_true]
  | some st =>
    simp only [← Nat.not_lt, ite_not, ne_eq, reduceCtorEq, if_false, Option.map_some, Option.some.injEq,
      ← Bool.not_eq_true]

/-- What an open passes (R58). -/
structure OpenPasses (s : State) (q : OpenRequest) : Prop where
  vacant   : ∀ i, (s.route i).state.live = true → (s.route i).port ≠ q.portId
  profile  : s.profile q.profileId ≠ .empty
  mapCount : q.mapCount ≤ 8 ∧ q.mapCount ≤ q.entries.length
  mapKeys  : (q.mapEntries.map (fun e => (e.family, e.kind))).Nodup
  mapRange : ∀ e ∈ q.mapEntries, 1 ≤ e.family ∧ e.family ≤ 255 ∧ e.action ≤ 2

theorem openStatus_ok (s : State) (q : OpenRequest) (h : openStatus s q = .ok) : OpenPasses s q := by
  rw [openStatus_eq_firstFailure] at h
  have hall := firstFailure_ok _ h (by simp [openChecks])
  simp only [openChecks, List.forall_mem_cons, decide_eq_true_eq] at hall
  obtain ⟨-, -, -, -, hport, -, -, hprofile, hcount, hkeys, ⟨-, -, -, hrange⟩, -⟩ := hall
  exact ⟨hport, hprofile, hcount, hkeys, hrange⟩

/-! ## The commands -/

theorem exec_routeOpen (s : State) : exec .routeOpen s = .next (take .routeOpen routeOpen s) := rfl
theorem exec_presetOpen (s : State) : exec .presetOpen s = .next (take .presetOpen presetOpen s) := rfl

theorem tryOpen_of_refused (s : State) (q : OpenRequest) (h : openStatus s q ≠ .ok) :
    tryOpen q s = (s, Reply.refusal (openStatus s q)) := by
  unfold tryOpen
  split
  · next hok _ => exact absurd hok h
  · rfl

theorem tryOpen_of_ok (s : State) (q : OpenRequest) (i : RouteId) (h : openStatus s q = .ok)
    (hi : s.freeRecord = some i) : tryOpen q s = (s.openRoute i q, openReply s i q) := by
  simp only [tryOpen, h, hi]

theorem presetOpen_of_none (args : List Word) (s : State)
    (h : 16 ≤ bits (arg args 1) 0 8 ∨ tget s.presets (Fin.ofNat 16 (bits (arg args 1) 0 8)) = none) :
    presetOpen args s = (s, Reply.refusal .range) := by
  unfold presetOpen refuse
  dsimp only
  split
  · rfl
  · next hlt => rw [h.resolve_left hlt]

theorem presetOpen_of_some (args : List Word) (s : State) (p : Preset) (hlt : bits (arg args 1) 0 8 < 16)
    (h : tget s.presets (Fin.ofNat 16 (bits (arg args 1) 0 8)) = some p) : presetOpen args s = tryOpen p.request s := by
  simp only [presetOpen, if_neg (Nat.not_le.2 hlt), h]

/-- Settles O11: the model's chain of checks is R58's list (`openStatus_eq_firstFailure`), for the words' setting and
for a preset's. -/
theorem opensAreCheckedInOrder : Obligations.OpensAreCheckedInOrder := by
  refine ⟨fun s c tick q status hdue hgiven hstatus hne => ?_, fun s c n hdue hkind hn hempty => ?_⟩
  · replace hstatus : openStatus s q = status := (openStatus_eq_firstFailure s q).trans hstatus.symm
    subst hstatus
    have htry := tryOpen_of_refused s q hne
    rcases hgiven with ⟨hkind, rfl⟩ | ⟨hkind, hlt, o, hpreset⟩ <;> rw [hkind]
    · exact take_spec_unchanged .routeOpen routeOpen s c _ (exec_routeOpen s) hdue hkind htry
    · exact take_spec_unchanged .presetOpen presetOpen s c _ (exec_presetOpen s) hdue hkind
        ((presetOpen_of_some c.args s _ hlt hpreset).trans htry)
  · subst hn
    refine take_spec_unchanged .presetOpen presetOpen s c _ (exec_presetOpen s) hdue hkind
      (presetOpen_of_none c.args s (hempty.imp_right ?_))
    rintro ⟨i, hi, hnone⟩
    rwa [← hi, Fin.ofNat_val_eq_self]

theorem OpenRequest.setting_eq (q : OpenRequest) (hcadence : q.cadence ≤ 1) (htimecode : q.timecode ≤ 2)
    (hunmapped : q.unmapped ≤ 2) :
    q.setting =
      { profile := q.profileId
        trim := min q.trim 99
        cadence := if q.cadence = 1 then .auto else .off
        timecode := if q.timecode = 0 then .off else if q.timecode = 1 then .source else .house
        holdLimit := q.holdLimit
        retireLimit := if q.retireLimit = 0 ∨ q.retireLimit = 65535 then none else some q.retireLimit
        mapList := (q.entries.take q.mapCount).map RawMapEntry.entry
        unmapped := if q.unmapped = 0 then .drop else if q.unmapped = 1 then .passOnce else .passEvery } := by
  rw [← cadenceOfCode_getD _ hcadence, ← timecodeModeOfCode_getD _ htimecode, ← unmappedOfCode_getD _ hunmapped]
  rfl

/-- Settles O12: every check of `openChecks` holds, so the open takes the lowest FREE record. -/
theorem routeOpenSetsTheRecord : Obligations.RouteOpenSetsTheRecord := by
  intro s c ins q i st hdue hgiven hfree hlow hfeed hst hport hvacant hfamily hprofile hempty hcount hlength hkeys
    hcadence htimecode hunmapped hentries
  have hok : openStatus s q = .ok := by
    rw [openStatus_eq_firstFailure]
    simp only [openChecks, firstFailure_cons, firstFailure_nil]
    rw [if_pos (decide_eq_true ⟨i, hfree⟩), if_pos (decide_eq_true hfeed), if_pos (decide_eq_true (by simp [hst])),
      if_pos (decide_eq_true hport), if_pos (decide_eq_true hvacant),
      if_pos (decide_eq_true (by rw [hst, Option.map_some, hfamily])), if_pos (decide_eq_true hprofile),
      if_pos (decide_eq_true hempty), if_pos (decide_eq_true ⟨hcount, hlength⟩), if_pos (decide_eq_true hkeys),
      if_pos (decide_eq_true ⟨hcadence, htimecode, hunmapped, hentries⟩)]
  have hrecord : s.freeRecord = some i :=
    List.find?_finRange_eq_some _ i (by simpa using hfree) fun j hj => by simpa using hlow j hj
  have htry := tryOpen_of_ok s q i hok hrecord
  have hspec : ∃ t, exec ins s = .next t ∧ t = { s.openRoute i q with cu := t.cu, device := t.device } ∧
      Taken s t s.device c (openReply s i q) := by
    rcases hgiven with ⟨hkind, rfl, rfl⟩ | ⟨hkind, rfl, hlt, o, hpreset⟩
    · exact ⟨_, exec_routeOpen s, take_spec .routeOpen routeOpen s _ c _ hdue hkind htry rfl⟩
    · exact ⟨_, exec_presetOpen s, take_spec .presetOpen presetOpen s _ c _ hdue hkind
        ((presetOpen_of_some c.args s _ hlt hpreset).trans htry) rfl⟩
  obtain ⟨t, hexec, ht, htaken⟩ := hspec
  have hroutes : ∀ j, t.route j = (s.openRoute i q).route j := fun j => by rw [ht]; rfl
  have hfeeds : ∀ f, t.feed f = (s.openRoute i q).feed f := fun f => by rw [ht]; rfl
  refine ⟨t, hexec, by rw [ht]; rfl, fun j hj => ?_, ?_, fun f hf => ?_, ?_, htaken⟩
  · rw [hroutes]
    exact (State.setRoute_route s i j _).trans (if_neg (Ne.symm hj))
  · rw [hroutes]
    refine (State.setRoute_route_self s i _).trans ?_
    rw [openedRoute, q.setting_eq hcadence htimecode hunmapped]
    dsimp only
    split <;> rfl
  · rw [hfeeds]
    exact (State.setFeed_feed s _ f _).trans (if_neg (Ne.symm hf))
  · rw [hfeeds]
    exact State.setFeed_feed_self s _ _

end Sys2Proof.Machine

/-! The laws of the timelines (R2, R10, R11, R17) and of the route counts and ports (R57) through every step. -/

namespace Sys2Proof.Machine

/-! ## A timeline -/

theorem Timeline.withStandard_clockOk {tl : Timeline} (h : tl.ClockOk) (st : Standard) :
    (tl.withStandard st).ClockOk where
  next := validTimecode_zero st
  current := by simp
  parity := by simp [Standard.firstParity]
  pairing := by simp [Standard.firstParity, zeroTimecode]; intro h; simp [h]
  running := h.running

theorem Timeline.startWith_clockOk (tl : Timeline) (st : Standard) (tick : Tick) (tc : Timecode)
    (valid : st.validTimecode tc = true) (single : tc.pair = false) : (tl.startWith st tick tc).ClockOk where
  next := valid
  current := by simp [Timeline.startWith]
  parity := by simp [Timeline.startWith, Standard.firstParity]
  pairing := by simp [Timeline.startWith, Standard.firstParity, single]; intro h; simp [h]
  running := by simp [Timeline.startWith]

theorem Timeline.reset_clockOk (st : Standard) (h : st.interlaced = true) : (Timeline.reset st st.drop).ClockOk where
  next := validTimecode_zero st
  current := by simp [Timeline.reset]
  parity := by simp [Timeline.reset, h]
  pairing := by simp [Timeline.reset, zeroTimecode]
  running := by simp [Timeline.reset]

theorem Standard.pairs_of_interlaced (st : Standard) (h : st.interlaced = true) : st.pairs = true := by
  revert h
  cases st <;> decide

/-- A boundary alternates the parity and the pair flag of an interlaced timeline together (R11, R17). -/
theorem Timeline.boundary_clockOk {tl : Timeline} (h : tl.ClockOk) : tl.boundary.ClockOk := by
  obtain ⟨next, current, parity, pairing, running⟩ := h
  refine ⟨Standard.advance_valid _ _ next, ?_, ?_, ?_, ?_⟩
  · intro tc htc
    obtain rfl : tl.nextTimecode = tc := by simpa [Timeline.boundary] using htc
    exact next
  · dsimp only [Timeline.boundary, Standard.parityAfter]
    cases tl.standard.interlaced
    · simp
    · simp only [if_true, true_iff]
      split <;> simp
  · intro hi
    have hpairing := pairing hi
    have hpairs := tl.standard.pairs_of_interlaced hi
    dsimp only [Timeline.boundary, Standard.parityAfter] at hi ⊢
    simp only [hi, if_true]
    by_cases hbottom : tl.nextParity = .bottom
    · have hpair := hpairing.2 hbottom
      rw [Standard.advance_of_last _ _ (by simp [hpair]), Standard.advanceFrame_pair]
      simp [hbottom]
    · have hpair : tl.nextTimecode.pair = false := by simpa [hbottom] using hpairing
      rw [Standard.advance_of_first _ _ next hpairs hpair]
      have htop : tl.nextParity = .top := by
        have hframe := parity.1 hi
        cases hp : tl.nextParity <;> simp_all
      simp [htop]
  · simpa [Timeline.boundary] using running

theorem State.setTimeline_clockOk {s : State} (t u : TimelineId) {tl : Timeline} (hs : (s.timeline u).ClockOk)
    (h : t = u → tl.ClockOk) : ((s.setTimeline t tl).timeline u).ClockOk := by
  by_cases htu : t = u
  · subst htu
    rw [State.setTimeline_timeline_self]
    exact h rfl
  · rw [State.setTimeline_timeline_ne s t u tl htu]
    exact hs

theorem Act.keeps_clock {s t : State} (h : Act s t) (u : TimelineId) (hs : (s.timeline u).ClockOk) :
    (t.timeline u).ClockOk := by
  have only : ∀ {v w : State}, v = w → w.timeline u = s.timeline u → (v.timeline u).ClockOk := by
    intro v w hvw hw
    rw [hvw, hw]
    exact hs
  have same : ∀ {w : State}, w.timelineA = s.timelineA → w.timelineB = s.timelineB → (w.timeline u).ClockOk := by
    intro w hA hB
    have hw : w.timeline u = s.timeline u := by cases u <;> assumption
    rw [hw]
    exact hs
  cases h with
  | outside _ h => exact only h (by cases u <;> rfl)
  | powerOn =>
    cases u
    · exact Timeline.reset_clockOk .h50i rfl
    · exact Timeline.reset_clockOk .h5994i rfl
  | house body =>
    have hset : ∀ st, ((s.timeline u).setStandard st).ClockOk := by
      rintro (_ | st)
      · exact hs
      · exact Timeline.withStandard_clockOk hs st
    cases u <;> exact hset _
  | start t st tick tc valid single =>
    exact State.setTimeline_clockOk t u hs fun _ => Timeline.startWith_clockOk _ st tick tc valid single
  | advance t =>
    refine State.setTimeline_clockOk t u hs ?_
    rintro rfl
    exact Timeline.boundary_clockOk hs
  | feedSet => exact only (State.applyFeedSet_only ..) (by cases u <;> rfl)
  | abandon => exact only (State.abandon_only ..) (by cases u <;> rfl)
  | store => exact only (State.store_only ..) (by cases u <;> rfl)
  | activeLine => exact only (State.activeLine_only ..) (by cases u <;> rfl)
  | packet => exact only (State.packet_only ..) (by cases u <;> rfl)
  | timecodeIn => exact only (State.timecodeIn_only ..) (by cases u <;> rfl)
  | presets => exact only (State.applyPresets_only ..) (by cases u <;> rfl)
  | portBoundary => exact only (State.portBoundary_only ..) (by cases u <;> rfl)
  | monitorBoundary => exact only (State.monitorBoundary_only ..) (by cases u <;> rfl)
  | line => exact only (State.outputLine_only ..) (by cases u <;> rfl)
  | endFlight => exact only (State.endFlight_only ..) (by cases u <;> rfl)
  | _ => exact same rfl rfl

/-! ## Lives: the records that are live, with their feeds and ports (R57) -/

/-- Two records are live at once, on one feed and one port. -/
def Route.SameLife (r q : Route) : Prop :=
  q.state.live = r.state.live ∧ q.feed = r.feed ∧ q.port = r.port

theorem Route.SameLife.refl (r : Route) : r.SameLife r := ⟨rfl, rfl, rfl⟩

theorem State.CountsOk.congr {s t : State} (hs : s.CountsOk) (hroute : ∀ i, (s.route i).SameLife (t.route i))
    (hcount : ∀ f, (t.feed f).routeCount = (s.feed f).routeCount) : t.CountsOk where
  counts f := by
    rw [hcount f, hs.counts f]
    refine List.countP_congr fun i _ => ?_
    obtain ⟨hlive, hfeed, -⟩ := hroute i
    rw [hlive, hfeed]
  ports i j hi hj hp := by
    obtain ⟨li, -, pi⟩ := hroute i
    obtain ⟨lj, -, pj⟩ := hroute j
    exact hs.ports i j (li ▸ hi) (lj ▸ hj) (pi ▸ pj ▸ hp)

theorem State.CountsOk.of_vacant {t : State} (hroute : ∀ i, (t.route i).state.live = false)
    (hcount : ∀ f, (t.feed f).routeCount = 0) : t.CountsOk where
  counts f := by
    rw [hcount f, eq_comm, List.countP_eq_zero]
    simp [hroute]
  ports i _ hi := by simp [hroute i] at hi

/-- A list without repeats counts one more where one of its elements is counted that was not. -/
theorem List.countP_flip {α : Type} (l : List α) (hl : l.Nodup) (i : α) (hi : i ∈ l) (p q : α → Bool)
    (hother : ∀ j, j ≠ i → q j = p j) (hp : p i = false) (hq : q i = true) : l.countP q = l.countP p + 1 := by
  induction l with
  | nil => simp at hi
  | cons a l ih =>
    obtain ⟨ha, hl⟩ := List.nodup_cons.1 hl
    rcases List.mem_cons.1 hi with rfl | hi
    · have hrest : l.countP q = l.countP p :=
        List.countP_congr fun j hj => by rw [hother j (fun h => ha (h ▸ hj))]
      rw [List.countP_cons_of_pos hq, List.countP_cons_of_neg (by simp [hp]), hrest]
    · rw [List.countP_cons, List.countP_cons, ih hl hi, hother a (fun h => ha (h ▸ hi))]
      omega

/-- A record that becomes live on a port without a live record, its feed's count raised. -/
theorem State.CountsOk.openLife {s t : State} (hs : s.CountsOk) (i : RouteId)
    (hroute : ∀ j, j ≠ i → (s.route j).SameLife (t.route j)) (dead : (s.route i).state.live = false)
    (live : (t.route i).state.live = true)
    (vacant : ∀ j, (s.route j).state.live = true → (s.route j).port ≠ (t.route i).port)
    (hcount : ∀ f, (t.feed f).routeCount =
      if f = (t.route i).feed then (s.feed f).routeCount + 1 else (s.feed f).routeCount) : t.CountsOk where
  counts f := by
    rw [hcount f, hs.counts f]
    split
    · next hf =>
      refine (List.countP_flip _ (List.nodup_finRange 16) i (List.mem_finRange i) _ _ (fun j hj => ?_) ?_ ?_).symm
      · obtain ⟨hlive, hfeed, -⟩ := hroute j hj
        rw [hlive, hfeed]
      · simp [dead]
      · simp [live, hf]
    · next hf =>
      refine List.countP_congr fun j _ => ?_
      by_cases hj : j = i
      · subst hj
        simp [dead, live, Ne.symm hf]
      · obtain ⟨hlive, hfeed, -⟩ := hroute j hj
        rw [hlive, hfeed]
  ports := by
    have other : ∀ j, j ≠ i → (t.route j).state.live = true → (t.route j).port ≠ (t.route i).port := by
      intro j hj hlive
      obtain ⟨hl, -, hport⟩ := hroute j hj
      rw [hport]
      exact vacant j (hl ▸ hlive)
    intro a b ha hb hab
    by_cases hai : a = i
    · by_cases hbi : b = i
      · rw [hai, hbi]
      · exact absurd (hai ▸ hab.symm) (other b hbi hb)
    · by_cases hbi : b = i
      · exact absurd (hbi ▸ hab) (other a hai ha)
      · obtain ⟨la, -, pa⟩ := hroute a hai
        obtain ⟨lb, -, pb⟩ := hroute b hbi
        exact hs.ports a b (la ▸ ha) (lb ▸ hb) (pa ▸ pb ▸ hab)

/-- A live record that ceases to be live, its feed's count lowered. -/
theorem State.CountsOk.endLife {s t : State} (hs : s.CountsOk) (i : RouteId)
    (hroute : ∀ j, j ≠ i → (s.route j).SameLife (t.route j)) (live : (s.route i).state.live = true)
    (dead : (t.route i).state.live = false)
    (hcount : ∀ f, (t.feed f).routeCount =
      if f = (s.route i).feed then (s.feed f).routeCount - 1 else (s.feed f).routeCount) : t.CountsOk where
  counts f := by
    rw [hcount f, hs.counts f]
    split
    · next hf =>
      rw [List.countP_flip _ (List.nodup_finRange 16) i (List.mem_finRange i)
        (fun j => (t.route j).state.live && (t.route j).feed == f) _ ?other ?_ ?_]
      · rfl
      case other =>
        intro j hj
        obtain ⟨hlive, hfeed, -⟩ := hroute j hj
        rw [hlive, hfeed]
      · simp [dead]
      · simp [live, hf]
    · next hf =>
      refine List.countP_congr fun j _ => ?_
      by_cases hj : j = i
      · subst hj
        simp [dead, live, Ne.symm hf]
      · obtain ⟨hlive, hfeed, -⟩ := hroute j hj
        rw [hlive, hfeed]
  ports a b ha hb hab := by
    have hai : a ≠ i := fun h => by simp [h, dead] at ha
    have hbi : b ≠ i := fun h => by simp [h, dead] at hb
    obtain ⟨la, -, pa⟩ := hroute a hai
    obtain ⟨lb, -, pb⟩ := hroute b hbi
    exact hs.ports a b (la ▸ ha) (lb ▸ hb) (pa ▸ pb ▸ hab)

theorem State.CountsOk.of_tables {s t : State} (hs : s.CountsOk) (hr : t.routes = s.routes) (hf : t.feeds = s.feeds) :
    t.CountsOk :=
  hs.congr (fun i => by rw [State.route_eq_of_routes_eq hr]; exact .refl _) (fun f => by simp only [State.feed, hf])

theorem State.CountsOk.of_routes_tset {s t : State} (hs : s.CountsOk) (i : RouteId) {r : Route}
    (hr : t.routes = tset s.routes i r) (hf : t.feeds = s.feeds) (h : (s.route i).SameLife r) : t.CountsOk := by
  refine hs.congr (fun j => ?_) (fun f => by simp only [State.feed, hf])
  simp only [State.route, hr, tget_tset]
  split
  · next hij => subst hij; exact h
  · exact .refl _

theorem State.CountsOk.of_feeds_tset {s t : State} (hs : s.CountsOk) (f : FeedId) {a : Feed}
    (hr : t.routes = s.routes) (hf : t.feeds = tset s.feeds f a) (h : a.routeCount = (s.feed f).routeCount) :
    t.CountsOk := by
  refine hs.congr (fun i => by rw [State.route_eq_of_routes_eq hr]; exact .refl _) (fun g => ?_)
  simp only [State.feed, hf, tget_tset]
  split
  · next hfg => subst hfg; exact h
  · rfl

/-! ## What keeps a feed's route count -/

theorem State.CountsOk.abandon {s : State} (hs : s.CountsOk) (f : FeedId) : (s.abandon f).CountsOk := by
  unfold State.abandon
  split
  · exact hs.of_feeds_tset f rfl rfl rfl
  · exact hs

theorem Feed.pinNominal_routeCount (f : Feed) : f.pinNominal.routeCount = f.routeCount := by
  unfold Feed.pinNominal
  split <;> rfl

theorem Feed.restart_routeCount (f : Feed) (st : Option Standard) : (f.restart st).routeCount = f.routeCount := by
  unfold Feed.restart
  rw [Feed.raiseChange_frame]

theorem Feed.applyVerdict_routeCount (f : Feed) (st : Standard) (v : Verdict) :
    (f.applyVerdict st v).routeCount = f.routeCount := by
  rw [Feed.applyVerdict_only]

theorem Feed.enterAcquire_routeCount (f : Feed) (st : Standard) : (f.enterAcquire st).routeCount = f.routeCount := by
  unfold Feed.enterAcquire
  split <;> rfl

theorem State.judged_routeCount (s : State) (f : FeedId) (st : Standard) :
    (s.judged f st).routeCount = (s.feed f).routeCount := by
  unfold State.judged State.counted Feed.filter Feed.endPicture
  rw [Feed.applyVerdict_routeCount]
  dsimp only
  repeat' split
  all_goals rfl

theorem State.CountsOk.applyFeedSet {s : State} (hs : s.CountsOk) (q : FeedRequest) : (s.applyFeedSet q).CountsOk := by
  unfold State.applyFeedSet
  dsimp only
  split
  · exact hs.of_feeds_tset q.feedId rfl rfl (Feed.pinNominal_routeCount _)
  · exact (hs.abandon q.feedId).of_feeds_tset q.feedId rfl rfl (Feed.restart_routeCount _ _)

theorem State.CountsOk.store {s : State} (hs : s.CountsOk) (f : FeedId) (st : Standard) (seq : BitVec 32)
    (parity : Parity) : (s.store f st seq parity).CountsOk := by
  unfold State.store
  split
  · split
    · exact hs.of_feeds_tset f rfl rfl rfl
    · exact hs.of_feeds_tset f rfl rfl rfl
  · exact hs

/-! ## What keeps a record's life -/

theorem Route.hold_sameLife (r : Route) : r.SameLife r.hold := by
  unfold Route.hold
  split
  all_goals
    next h => exact ⟨by simp [h, RouteState.live], rfl, rfl⟩

theorem Route.afterChange_sameLife (r : Route) (f : FeedId) (old new : FeedState) :
    r.SameLife (r.afterChange f old new) := by
  unfold Route.afterChange Route.afterLoss Route.afterReturn
  split_ifs with _ _ hlost _ hback hheld
  · exact .refl r
  · obtain ⟨-, h | h⟩ := hlost <;> exact ⟨by simp [Route.starve, Route.raise, h, RouteState.live], rfl, rfl⟩
  · exact .refl r
  · obtain ⟨-, h | h⟩ := hback <;> exact ⟨by simp [Route.recover, h, RouteState.live], rfl, rfl⟩
  · exact ⟨rfl, rfl, rfl⟩
  · exact .refl r
  · exact .refl r

theorem Route.afterPicture_sameLife (r : Route) (f : FeedId) (st : Standard) (seq : BitVec 32) (matched : Bool)
    (offer : Option SlotId) : r.SameLife (r.afterPicture f st seq matched offer) := by
  have hstep : r.SameLife (r.cadenceStep st matched).1 := by
    rw [Route.cadenceStep_frame]
    exact ⟨rfl, rfl, rfl⟩
  unfold Route.afterPicture
  split
  · split
    · unfold Route.enterRunning
      split
      · next hp => exact ⟨by rw [← hstep.1]; exact (congrArg RouteState.live hp.1).symm, hstep.2⟩
      · exact hstep
    · exact hstep
  · exact .refl r

theorem Route.SameLife.trans {r q p : Route} (h : r.SameLife q) (h' : q.SameLife p) : r.SameLife p :=
  ⟨h'.1.trans h.1, h'.2.1.trans h.2.1, h'.2.2.trans h.2.2⟩

theorem Act.keeps_counts {s t : State} (h : Act s t) (hs : s.CountsOk) : t.CountsOk := by
  have unchanged : ∀ {u : State}, u.routes = s.routes → u.feeds = s.feeds → u.CountsOk := hs.of_tables
  have only : ∀ {u v : State}, u = v → v.routes = s.routes → v.feeds = s.feeds → u.CountsOk :=
    fun h h1 h2 => unchanged (by rw [h, h1]) (by rw [h, h2])
  have record : ∀ {u : State} (i : RouteId) {r : Route}, u.routes = tset s.routes i r → u.feeds = s.feeds →
      (s.route i).SameLife r → u.CountsOk := fun i _ => hs.of_routes_tset i
  have other : ∀ (i : RouteId) (r : Route) (j : RouteId), j ≠ i → (s.route j).SameLife ((s.setRoute i r).route j) := by
    intro i r j hj
    rw [State.setRoute_route, if_neg (Ne.symm hj)]
    exact .refl _
  cases h with
  | outside _ h => exact only h rfl rfl
  | powerOn =>
    exact .of_vacant (fun i => by simp [State.route, State.powerOn, State.reset, Route.free, RouteState.live])
      (fun f => by simp [State.feed, State.powerOn, State.reset, Feed.reset])
  | controlReset =>
    exact .of_vacant (fun i => by simp [State.route, State.controlReset, Route.free, RouteState.live])
      (fun f => by simp [State.feed, State.controlReset, Feed.reset])
  | openRoute i q given status hrecord =>
    have hself : (s.openRoute i q).route i = openedRoute (s.route i).generation q (s.portStandard q.portId) :=
      State.setRoute_route_self s i _
    refine hs.openLife i (other i _) (by simp [s.freeRecord_free i hrecord, RouteState.live]) (by rw [hself]; rfl)
      (by rw [hself]; exact (openStatus_ok s q status).vacant) (fun f => ?_)
    rw [hself]
    refine (congrArg Feed.routeCount (State.setFeed_feed s q.feedId f _)).trans ?_
    dsimp only [openedRoute]
    by_cases hf : q.feedId = f
    · subst hf; simp
    · simp [hf, Ne.symm hf]
  | alter i | trim i | held i | lapse i => exact record i rfl rfl ⟨rfl, rfl, rfl⟩
  | mark i _ h => exact record i rfl rfl (by rw [h]; exact ⟨rfl, rfl, rfl⟩)
  | hold i => exact record i rfl rfl (Route.hold_sameLife _)
  | resume i held => exact record i rfl rfl ⟨by dsimp only; split <;> simp [held, RouteState.live], rfl, rfl⟩
  | close i live =>
    have hself : ((s.flushInto i ((s.route i).endLife (s.route i).closeState)).route i) =
        (s.route i).endLife (s.route i).closeState := State.setRoute_route_self s i _
    refine hs.endLife i (other i _) live ?_ (fun f => ?_)
    · refine (congrArg (fun r : Route => r.state.live) hself).trans ?_
      dsimp only [Route.endLife, Route.closeState]
      split <;> rfl
    · refine (congrArg Feed.routeCount (State.setFeed_feed s (s.route i).feed f _)).trans ?_
      by_cases hf : (s.route i).feed = f
      · subst hf; simp [Feed.dropRoute]
      · simp [hf, Ne.symm hf]
  | retire i resting =>
    refine hs.endLife i (other i _) (by rcases resting with h | h <;> simp [h, RouteState.live]) ?_ (fun f => ?_)
    · exact congrArg (fun r : Route => r.state.live) (State.setRoute_route_self s i _)
    · refine (congrArg Feed.routeCount (State.setFeed_feed s (s.route i).feed f _)).trans ?_
      by_cases hf : (s.route i).feed = f
      · subst hf; simp [Feed.dropRoute]
      · simp [hf, Ne.symm hf]
  | starve i taking =>
    exact record i rfl rfl ⟨by revert taking; cases (s.route i).state <;> simp [Route.starve, Route.raise,
      RouteState.taking, RouteState.live], rfl, rfl⟩
  | recover i resting =>
    exact record i rfl rfl ⟨by rcases resting with h | h <;> simp [h, Route.recover, RouteState.live], rfl, rfl⟩
  | flush i => exact record i rfl rfl ⟨rfl, rfl, rfl⟩
  | enterLapsed i starved =>
    exact record i rfl rfl ⟨by simp [starved, Route.enterLapsed, Route.raise, RouteState.live], rfl, rfl⟩
  | closing i closing =>
    exact record i rfl rfl ⟨by simp [closing, Route.vacate, RouteState.live], rfl, rfl⟩
  | running i => exact record i rfl rfl (by rw [Route.runBoundary_frame]; exact ⟨rfl, rfl, rfl⟩)
  | cut =>
    refine hs.congr (fun i => ?_) (fun _ => rfl)
    simp only [State.cutTimeline, State.route, tget_map]
    split <;> exact ⟨rfl, rfl, rfl⟩
  | portBoundary p parity house =>
    refine hs.congr (fun j => ?_) (fun f => by rw [State.portBoundary_only]; rfl)
    rw [State.portBoundary_route]
    exact ⟨rfl, rfl, rfl⟩
  | line o =>
    refine hs.congr (fun j => ?_) (fun f => by rw [State.outputLine_only]; rfl)
    rw [State.outputLine_route]
    exact ⟨rfl, rfl, rfl⟩
  | endFlight f st =>
    refine hs.congr (fun j => ?_) (fun g => ?_)
    · rw [State.endFlight_route]
      exact (Route.afterPicture_sameLife _ _ _ _ _ _).trans (Route.afterChange_sameLife _ _ _ _)
    · rw [State.endFlight_feed]
      split
      · next hfg => subst hfg; exact State.judged_routeCount s f st
      · rfl
  | feedMark f a h => exact hs.of_feeds_tset f rfl rfl (by rw [h])
  | feedSet q => exact hs.applyFeedSet q
  | abandon f => exact hs.abandon f
  | store f st seq parity => exact hs.store f st seq parity
  | verdictBad f => exact hs.of_feeds_tset f rfl rfl (Feed.applyVerdict_routeCount _ _ _)
  | begin f => exact hs.of_feeds_tset f rfl rfl (Feed.enterAcquire_routeCount _ _)
  | goLost f => exact hs.of_feeds_tset f rfl rfl rfl
  | start | advance => exact unchanged (State.setTimeline_routes _ _ _) (State.setTimeline_feeds _ _ _)
  | monitorBoundary => exact only (State.monitorBoundary_only ..) rfl rfl
  | activeLine => exact only (State.activeLine_only ..) rfl rfl
  | packet => exact only (State.packet_only ..) rfl rfl
  | timecodeIn => exact only (State.timecodeIn_only ..) rfl rfl
  | presets => exact only (State.applyPresets_only ..) rfl rfl
  | house => exact only (State.applyHouse_only ..) rfl rfl
  | _ => exact unchanged rfl rfl

/-- Settles O56: a step is elementary actions (`step_acts`), and each of them keeps the counts and the timelines'
laws. -/
theorem stepKeepsRouteCountsAndTimelines : Obligations.StepKeepsRouteCountsAndTimelines := by
  intro s t h
  refine ⟨fun hs => ?_, fun u hu => ?_⟩
  · exact step_keeps (P := State.CountsOk) (fun _ _ => Act.keeps_counts) s t hs h
  · exact step_keeps (P := fun v => (v.timeline u).ClockOk) (fun _ _ act => act.keeps_clock u) s t hu h

end Sys2Proof.Machine

/-! The laws of the Profile Table, of the routes' settings and of the presets (R110, R116, R53, R58, R127, R167) through
every step. -/

namespace Sys2Proof.Machine

/-! ## Settings -/

/-- The laws of one setting: those of `State.ProfilesOk` that speak of a route's setting alone (R53, R58, R127). -/
structure RouteSetting.Ok (q : RouteSetting) : Prop where
  trim    : q.trim ≤ 99
  mapList : q.mapList.length ≤ 8
  mapKeys : (q.mapList.map MapEntry.key).Nodup ∧ ∀ e ∈ q.mapList, e.key.family ≠ 0
  limits  : q.holdLimit ≤ 65535 ∧ ∀ l, q.retireLimit = some l → 1 ≤ l ∧ l ≤ 65535

theorem State.ProfilesOk.setting {s : State} (hs : s.ProfilesOk) (i : RouteId) : (s.route i).setting.Ok :=
  ⟨hs.trim i, hs.mapList i, hs.mapKeys i, hs.limits i⟩

/-- A setting's numbers come from 16-bit fields and 8-bit kinds (R58, R167). -/
structure OpenRequest.Bounded (q : OpenRequest) : Prop where
  holdLimit   : q.holdLimit ≤ 65535
  retireLimit : q.retireLimit ≤ 65535
  kinds       : ∀ e ∈ q.entries, e.kind ≤ 255

theorem bits_lt (w : Word) (lo n : Nat) : bits w lo n < 2 ^ n := Nat.mod_lt _ (by positivity)

theorem rawEntries_kind (ws : List Word) : ∀ e ∈ rawEntries ws, e.kind ≤ 255 := by
  induction ws using rawEntries.induct with
  | case1 w1 w2 rest ih =>
    intro e he
    rw [rawEntries] at he
    rcases List.mem_cons.1 he with rfl | he
    · exact Nat.le_of_lt_succ (bits_lt w1 8 8)
    · exact ih e he
  | case2 ws h =>
    rw [rawEntries]
    · simp
    · exact h

theorem requestOfWords_bounded (ws : List Word) : (requestOfWords ws).Bounded where
  holdLimit := Nat.le_of_lt_succ (bits_lt _ 0 16)
  retireLimit := Nat.le_of_lt_succ (bits_lt _ 16 16)
  kinds := rawEntries_kind _

theorem OpenRequest.Given.bounded {s : State} (hs : s.ProfilesOk) {q : OpenRequest} (given : q.Given s) :
    q.Bounded := by
  rcases given with ⟨ws, rfl⟩ | ⟨n, p, hp, rfl⟩
  · exact requestOfWords_bounded ws
  · obtain ⟨-, hhold, hretire, hkinds⟩ := hs.presets n p hp
    exact ⟨hhold, hretire, hkinds⟩

/-- Entries with 8-bit keys give map entries with those keys, each its own (R127). -/
theorem OpenRequest.mapEntries_keys (q : OpenRequest) (hkinds : ∀ e ∈ q.entries, e.kind ≤ 255)
    (hrange : ∀ e ∈ q.mapEntries, 1 ≤ e.family ∧ e.family ≤ 255 ∧ e.action ≤ 2)
    (hkeys : (q.mapEntries.map (fun e => (e.family, e.kind))).Nodup) :
    ((q.mapEntries.map RawMapEntry.entry).map MapEntry.key).Nodup ∧
      ∀ e ∈ q.mapEntries.map RawMapEntry.entry, e.key.family ≠ 0 := by
  have hkind : ∀ e ∈ q.mapEntries, e.kind ≤ 255 := fun e he => hkinds e (List.mem_of_mem_take he)
  have hbyte : ∀ n : Nat, n ≤ 255 → (BitVec.ofNat 8 n).toNat = n := fun n hn => by
    rw [BitVec.toNat_ofNat]; omega
  constructor
  · rw [List.map_map]
    refine List.Nodup.map_on ?_ (List.Nodup.of_map _ hkeys)
    intro a ha b hb hab
    have hinj := List.inj_on_of_nodup_map hkeys ha hb
    simp only [Function.comp_apply, RawMapEntry.entry, Key.mk.injEq] at hab
    refine hinj (Prod.ext ?_ ?_)
    · have h := congrArg BitVec.toNat hab.1
      rwa [hbyte _ (hrange a ha).2.1, hbyte _ (hrange b hb).2.1] at h
    · have h := congrArg BitVec.toNat hab.2
      rwa [hbyte _ (hkind a ha), hbyte _ (hkind b hb)] at h
  · intro e he
    obtain ⟨x, hx, rfl⟩ := List.mem_map.1 he
    intro hzero
    have h := congrArg BitVec.toNat hzero
    dsimp only [RawMapEntry.entry] at h
    rw [hbyte _ (hrange x hx).2.1] at h
    have h1 := (hrange x hx).1
    simp at h
    omega

theorem retireOf_limits (n l : Nat) (hn : n ≤ 65535) (h : retireOf n = some l) : 1 ≤ l ∧ l ≤ 65535 := by
  unfold retireOf at h
  split at h
  · simp at h
  · obtain rfl := Option.some.inj h
    omega

/-- What an open or an alteration that passes its checks sets is lawful. -/
theorem OpenRequest.setting_ok (q : OpenRequest) (hq : q.Bounded) (hcount : q.mapCount ≤ 8)
    (hrange : ∀ e ∈ q.mapEntries, 1 ≤ e.family ∧ e.family ≤ 255 ∧ e.action ≤ 2)
    (hkeys : (q.mapEntries.map (fun e => (e.family, e.kind))).Nodup) : q.setting.Ok where
  trim := Nat.min_le_right _ _
  mapList := by
    simp only [OpenRequest.setting, OpenRequest.mapEntries, List.length_map, List.length_take]
    omega
  mapKeys := q.mapEntries_keys hq.kinds hrange hkeys
  limits := ⟨hq.holdLimit, fun _ => retireOf_limits _ _ hq.retireLimit⟩

/-! ## An alteration (R72) -/

/-- What an alteration with a present field passes (R72). -/
structure AlterPasses (s : State) (p : AlterFlags) (q : OpenRequest) : Prop where
  profile : p.profile = true → s.profile q.profileId ≠ .empty
  mapList : p.mapList = true → q.mapCount ≤ 8 ∧ (q.mapEntries.map (fun e => (e.family, e.kind))).Nodup ∧
    ∀ e ∈ q.mapEntries, 1 ≤ e.family ∧ e.family ≤ 255 ∧ e.action ≤ 2

theorem alterStatus_ok (s : State) (p : AlterFlags) (q : OpenRequest) (h : alterStatus s p q = .ok) :
    AlterPasses s p q := by
  unfold alterStatus at h
  split_ifs at h with _ _ hempty hfits hrepeats hvalid
  refine ⟨fun hp => ?_, fun hp => ?_⟩
  · simpa [hp] using hempty
  · simp only [hp, Bool.true_and, Bool.not_eq_true', Bool.not_eq_false] at hfits hrepeats
    rw [q.mapFits_eq, decide_eq_true_eq] at hfits
    have hmap : q.mapValid = true := by
      simp only [alterValid, hp, Bool.not_true, Bool.false_or, Bool.not_eq_true', Bool.not_eq_false,
        Bool.and_eq_true] at hvalid
      exact hvalid.2
    rw [q.mapValid_eq, decide_eq_true_eq] at hmap
    exact ⟨hfits.1, by simpa [OpenRequest.mapRepeats] using hrepeats, hmap⟩

theorem alterSetting_ok {old : RouteSetting} (h : old.Ok) {s : State} {p : AlterFlags} {q : OpenRequest}
    (hq : q.Bounded) (passes : AlterPasses s p q) : (alterSetting old p q).Ok := by
  obtain ⟨htrim, hlist, hkeys, hhold, hretire⟩ := h
  refine ⟨?_, ?_, ?_, ?_, ?_⟩ <;> dsimp only [alterSetting]
  · split
    · exact Nat.min_le_right _ _
    · exact htrim
  · split
    · next hp =>
      obtain ⟨hcount, hnodup, hrange⟩ := passes.mapList hp
      exact (q.setting_ok hq hcount hrange hnodup).mapList
    · exact hlist
  · split
    · next hp =>
      obtain ⟨hcount, hnodup, hrange⟩ := passes.mapList hp
      exact (q.setting_ok hq hcount hrange hnodup).mapKeys
    · exact hkeys
  · split
    · exact hq.holdLimit
    · exact hhold
  · split
    · exact fun l => retireOf_limits _ l hq.retireLimit
    · exact hretire

/-! ## The presets (R167) -/

theorem flashWord_le (ws : List Word16) (n : Nat) : flashWord ws n ≤ 65535 := by
  have h := (ws.getD n 0xFFFF).isLt
  simp only [flashWord]
  omega

theorem presetOfFlash_ok (ws : List Word16) (pos : Nat) :
    (presetOfFlash ws pos).startOrder ≤ 16 ∧ (presetOfFlash ws pos).request.Bounded := by
  refine ⟨?_, flashWord_le _ _, flashWord_le _ _, ?_⟩
  · dsimp only [presetOfFlash]
    split <;> omega
  · intro e he
    dsimp only [presetOfFlash] at he
    obtain ⟨k, -, rfl⟩ := List.mem_map.1 he
    dsimp only [rawEntryOfFlash, keyKind]
    omega

/-! ## The state -/

theorem State.ProfilesOk.congr {s t : State} (hs : s.ProfilesOk) (hprofiles : t.profiles = s.profiles)
    (hpresets : t.presets = s.presets)
    (hroute : ∀ i, (t.route i).setting.Ok ∧
      ((t.route i).state.live = true → s.profile (t.route i).setting.profile ≠ .empty)) : t.ProfilesOk where
  curves i := by simpa only [State.profile, hprofiles] using hs.curves i
  builtIn i := by simpa only [State.profile, hprofiles] using hs.builtIn i
  named i := by simpa only [State.profile, hprofiles] using (hroute i).2
  trim i := (hroute i).1.trim
  mapList i := (hroute i).1.mapList
  mapKeys i := (hroute i).1.mapKeys
  limits i := (hroute i).1.limits
  presets := by rw [hpresets]; exact hs.presets

/-- Two records with one setting, the second live only where the first is. -/
def Route.KeepsSetting (r q : Route) : Prop :=
  q.setting = r.setting ∧ (q.state.live = true → r.state.live = true)

theorem State.ProfilesOk.of_routes {s t : State} (hs : s.ProfilesOk) (hprofiles : t.profiles = s.profiles)
    (hpresets : t.presets = s.presets) (hroute : ∀ i, (s.route i).KeepsSetting (t.route i)) : t.ProfilesOk := by
  refine hs.congr hprofiles hpresets fun i => ?_
  obtain ⟨hsetting, hlive⟩ := hroute i
  rw [hsetting]
  exact ⟨hs.setting i, fun h => hs.named i (hlive h)⟩

theorem State.ProfilesOk.of_routes_tset {s t : State} (hs : s.ProfilesOk) (i : RouteId) {r : Route}
    (hr : t.routes = tset s.routes i r) (hprofiles : t.profiles = s.profiles) (hpresets : t.presets = s.presets)
    (h : (s.route i).KeepsSetting r) : t.ProfilesOk := by
  refine hs.of_routes hprofiles hpresets fun j => ?_
  simp only [State.route, hr, tget_tset]
  split
  · next hij => subst hij; exact h
  · exact ⟨rfl, id⟩

theorem Route.SameLife.keepsSetting {r q : Route} (h : r.SameLife q) (hsetting : q.setting = r.setting) :
    r.KeepsSetting q :=
  ⟨hsetting, fun hq => h.1 ▸ hq⟩

theorem Route.hold_setting (r : Route) : r.hold.setting = r.setting := by
  unfold Route.hold
  split <;> rfl

theorem Route.afterChange_setting (r : Route) (f : FeedId) (old new : FeedState) :
    (r.afterChange f old new).setting = r.setting := by
  unfold Route.afterChange Route.afterLoss Route.afterReturn
  split_ifs <;> rfl

theorem Route.afterPicture_setting (r : Route) (f : FeedId) (st : Standard) (seq : BitVec 32) (matched : Bool)
    (offer : Option SlotId) : (r.afterPicture f st seq matched offer).setting = r.setting := by
  unfold Route.afterPicture Route.enterRunning
  rw [Route.cadenceStep_frame]
  repeat' split
  all_goals rfl

theorem profilesReset_ok : ∀ i : ProfileId, (tget profilesReset i).CurveOk := by
  have hall : ∀ i : ProfileId, (match tget profilesReset i with
      | .curve points => curveValid points
      | .snap => true
      | .empty => true) = true := by decide
  intro i points hi
  have h := hall i
  rw [hi] at h
  exact h

/-- A part whose records are all FREE and whose presets are all empty, with the profiles of a reset. -/
theorem State.ProfilesOk.of_reset {t : State} (hprofiles : t.profiles = profilesReset)
    (hpresets : t.presets = Vector.replicate 16 none) (hroute : ∀ i, ∃ g, t.route i = Route.free g) :
    t.ProfilesOk := by
  have hsetting : ∀ i, (t.route i).setting.Ok ∧ (t.route i).state = .free := by
    intro i
    obtain ⟨g, hg⟩ := hroute i
    rw [hg]
    exact ⟨⟨by simp [Route.free], by simp [Route.free], by simp [Route.free], by simp [Route.free]⟩, rfl⟩
  refine ⟨fun i => ?_, fun i _ => ?_, fun i hi => ?_, fun i => (hsetting i).1.trim, fun i => (hsetting i).1.mapList,
    fun i => (hsetting i).1.mapKeys, fun i => (hsetting i).1.limits, fun n p hp => ?_⟩
  · rw [State.profile, hprofiles]
    exact profilesReset_ok i
  · rw [State.profile, hprofiles]
  · rw [(hsetting i).2] at hi
    exact absurd hi (by decide)
  · rw [hpresets, tget_replicate] at hp
    exact absurd hp (by simp)

theorem profileWriteStatus_ok (q : ProfileRequest) (h : profileWriteStatus q = .ok) :
    4 ≤ q.profile ∧ q.profile < 32 ∧ q.contents ≠ .empty ∧ q.contents.CurveOk := by
  unfold profileWriteStatus at h
  unfold ProfileRequest.contents
  split at h
  · simp at h
  split at h
  · simp at h
  split at h
  · next hkind =>
    rw [if_pos hkind]
    exact ⟨by omega, by omega, by simp, fun points hp => by simp at hp⟩
  split at h
  · next hkind =>
    rw [if_neg (by omega)]
    split at h
    · simp at h
    · next points hpoints =>
      split at h
      · next hvalid =>
        refine ⟨by omega, by omega, by simp, fun l hl => ?_⟩
        rw [hpoints, Option.getD_some, Profile.curve.injEq] at hl
        rwa [← hl]
      · simp at h
  · simp at h

theorem State.ProfilesOk.profileWrite {s : State} (hs : s.ProfilesOk) (q : ProfileRequest)
    (status : profileWriteStatus q = .ok) :
    ({ s with profiles := tset s.profiles (Fin.ofNat 32 q.profile) q.contents } : State).ProfilesOk := by
  obtain ⟨hlow, hhigh, hcontents, hcurve⟩ := profileWriteStatus_ok q status
  have hval : (Fin.ofNat 32 q.profile : ProfileId).val = q.profile := Nat.mod_eq_of_lt hhigh
  refine ⟨fun i => ?_, fun i hi => ?_, fun i hi => ?_, hs.trim, hs.mapList, hs.mapKeys, hs.limits, hs.presets⟩ <;>
    simp only [State.profile, tget_tset]
  · split
    · exact hcurve
    · exact hs.curves i
  · rw [if_neg]
    · exact hs.builtIn i hi
    · rintro rfl
      omega
  · split
    · exact hcontents
    · exact hs.named i hi

theorem State.applyPresets_bounded (s : State) (body : List Word16) (n : PresetId) (p : Preset)
    (hp : tget (s.applyPresets body).presets n = some p) : p.startOrder ≤ 16 ∧ p.request.Bounded := by
  simp only [State.applyPresets, tget_ofFn, presetEntry] at hp
  split at hp
  · obtain rfl := Option.some.inj hp
    exact presetOfFlash_ok body (35 * n.val)
  · simp at hp

theorem State.ProfilesOk.applyPresets {s : State} (hs : s.ProfilesOk) (body : List Word16) :
    (s.applyPresets body).ProfilesOk := by
  have hbounded := s.applyPresets_bounded body
  rw [State.applyPresets_only]
  generalize (s.applyPresets body).presets = presets at hbounded ⊢
  refine ⟨hs.curves, hs.builtIn, hs.named, hs.trim, hs.mapList, hs.mapKeys, hs.limits, fun n p hp => ?_⟩
  obtain ⟨horder, hhold, hretire, hkinds⟩ := hbounded n p hp
  exact ⟨horder, hhold, hretire, hkinds⟩

theorem Act.keeps_profiles {s t : State} (h : Act s t) (hs : s.ProfilesOk) : t.ProfilesOk := by
  have unchanged : ∀ {u : State}, u.routes = s.routes → u.profiles = s.profiles → u.presets = s.presets →
      u.ProfilesOk := fun h1 h2 h3 =>
    hs.of_routes h2 h3 fun i => by rw [State.route_eq_of_routes_eq h1]; exact ⟨rfl, id⟩
  have only : ∀ {u v : State}, u = v → v.routes = s.routes → v.profiles = s.profiles → v.presets = s.presets →
      u.ProfilesOk := fun h h1 h2 h3 => unchanged (by rw [h, h1]) (by rw [h, h2]) (by rw [h, h3])
  have record : ∀ {u : State} (i : RouteId) {r : Route}, u.routes = tset s.routes i r → u.profiles = s.profiles →
      u.presets = s.presets → (s.route i).KeepsSetting r → u.ProfilesOk := fun i _ => hs.of_routes_tset i
  have change : ∀ {u : State} (i : RouteId) {r : Route}, u.routes = tset s.routes i r → u.profiles = s.profiles →
      u.presets = s.presets → r.setting.Ok →
      (r.state.live = true → s.profile r.setting.profile ≠ .empty) → u.ProfilesOk := by
    intro u i r hr hp hq hset hlive
    refine hs.congr hp hq fun j => ?_
    simp only [State.route, hr, tget_tset]
    split
    · exact ⟨hset, hlive⟩
    · exact ⟨hs.setting j, hs.named j⟩
  cases h with
  | outside _ h => exact only h rfl rfl rfl
  | powerOn => exact .of_reset rfl rfl fun i => ⟨0, by simp [State.route, State.powerOn, State.reset]⟩
  | controlReset => exact .of_reset rfl rfl fun i => ⟨_, tget_map _ _ i⟩
  | openRoute i q given status =>
    have passes := openStatus_ok s q status
    exact change i rfl rfl rfl (q.setting_ok (given.bounded hs) passes.mapCount.1 passes.mapRange passes.mapKeys)
      fun _ => passes.profile
  | alter i p ws status =>
    have passes := alterStatus_ok s p _ status
    refine change i rfl rfl rfl (alterSetting_ok (hs.setting i) (requestOfWords_bounded ws) passes) fun hlive => ?_
    dsimp only [Route.alter, alterSetting]
    split
    · next hp => exact passes.profile hp
    · exact hs.named i hlive
  | trim i step =>
    refine change i rfl rfl rfl ?_ (hs.named i)
    obtain ⟨htrim, hlist, hkeys, hlimits⟩ := hs.setting i
    refine ⟨?_, hlist, hkeys, hlimits⟩
    dsimp only [Route.withTrim, stepTrim]
    omega
  | mark i _ h => exact record i rfl rfl rfl (by rw [h]; exact ⟨rfl, id⟩)
  | hold i => exact record i rfl rfl rfl ((Route.hold_sameLife _).keepsSetting (Route.hold_setting _))
  | resume i held => exact record i rfl rfl rfl ⟨rfl, fun _ => by simp [held, RouteState.live]⟩
  | close i live => exact record i rfl rfl rfl ⟨rfl, fun _ => live⟩
  | starve i taking =>
    exact record i rfl rfl rfl ⟨rfl, fun _ => by revert taking; cases (s.route i).state <;> decide⟩
  | recover i resting =>
    exact record i rfl rfl rfl ⟨rfl, fun _ => by rcases resting with h | h <;> simp [h, RouteState.live]⟩
  | flush i | held i | lapse i => exact record i rfl rfl rfl ⟨rfl, id⟩
  | enterLapsed i starved => exact record i rfl rfl rfl ⟨rfl, fun _ => by simp [starved, RouteState.live]⟩
  | retire i | closing i => exact record i rfl rfl rfl ⟨rfl, fun h => by simp [Route.vacate, RouteState.live] at h⟩
  | running i => exact record i rfl rfl rfl (by rw [Route.runBoundary_frame]; exact ⟨rfl, id⟩)
  | cut =>
    refine hs.of_routes rfl rfl fun i => ?_
    simp only [State.cutTimeline, State.route, tget_map]
    split <;> exact ⟨rfl, id⟩
  | portBoundary p parity house =>
    refine hs.of_routes (by rw [State.portBoundary_only]) (by rw [State.portBoundary_only]) fun j => ?_
    rw [State.portBoundary_route]
    exact ⟨rfl, id⟩
  | line o =>
    refine hs.of_routes (by rw [State.outputLine_only]) (by rw [State.outputLine_only]) fun j => ?_
    rw [State.outputLine_route]
    exact ⟨rfl, id⟩
  | endFlight f st =>
    refine hs.of_routes (by rw [State.endFlight_only]) (by rw [State.endFlight_only]) fun j => ?_
    rw [State.endFlight_route]
    exact ((Route.afterPicture_sameLife _ _ _ _ _ _).trans (Route.afterChange_sameLife _ _ _ _)).keepsSetting
      ((Route.afterChange_setting _ _ _ _).trans (Route.afterPicture_setting _ _ _ _ _ _))
  | profileWrite q status => exact hs.profileWrite q status
  | presets body => exact hs.applyPresets body
  | house => exact only (State.applyHouse_only ..) rfl rfl rfl
  | feedSet => exact only (State.applyFeedSet_only ..) rfl rfl rfl
  | abandon => exact only (State.abandon_only ..) rfl rfl rfl
  | store => exact only (State.store_only ..) rfl rfl rfl
  | monitorBoundary => exact only (State.monitorBoundary_only ..) rfl rfl rfl
  | activeLine => exact only (State.activeLine_only ..) rfl rfl rfl
  | packet => exact only (State.packet_only ..) rfl rfl rfl
  | timecodeIn => exact only (State.timecodeIn_only ..) rfl rfl rfl
  | start | advance =>
    exact unchanged (State.setTimeline_routes _ _ _) (State.setTimeline_profiles _ _ _)
      (State.setTimeline_presets _ _ _)
  | _ => exact unchanged rfl rfl rfl

/-- Settles O58: a step is elementary actions (`step_acts`), and each of them keeps the laws (`Act.keeps_profiles`). -/
theorem stepKeepsProfilesAndSettings : Obligations.StepKeepsProfilesAndSettings := by
  unfold Obligations.StepKeepsProfilesAndSettings
  exact step_keeps fun _ _ => Act.keeps_profiles

end Sys2Proof.Machine

/-! The blocks of an output boundary (R11, R62 to R64, R121, R143): what the records, the ports and the monitor each
leave as it was, and what each record becomes. -/

namespace Sys2Proof.Machine

/-! ## What the blocks leave as it was -/

/-- A property that each turn of a fold keeps holds after it. -/
theorem List.foldl_keeps {α β : Type} (P : α → Prop) (g : α → β → α) (l : List β) (a : α) (ha : P a)
    (one : ∀ u b, P u → P (g u b)) : P (l.foldl g a) := by
  induction l generalizing a with
  | nil => exact ha
  | cons b l ih => exact ih _ (one a b ha)

theorem State.lapseBoundary_only (s : State) (i : RouteId) :
    s.lapseBoundary i =
      { s with
        routes := (s.lapseBoundary i).routes, slots := (s.lapseBoundary i).slots, feeds := (s.lapseBoundary i).feeds
        device := (s.lapseBoundary i).device } := by
  unfold State.lapseBoundary
  dsimp only
  split
  · rfl
  · split <;> rfl

theorem State.routeBoundary_only (s : State) (parity : Parity) (i : RouteId) :
    s.routeBoundary parity i =
      { s with
        routes := (s.routeBoundary parity i).routes, slots := (s.routeBoundary parity i).slots
        feeds := (s.routeBoundary parity i).feeds, device := (s.routeBoundary parity i).device } := by
  unfold State.routeBoundary
  split
  · rfl
  · unfold State.heldBoundary
    dsimp only
    split <;> rfl
  · exact State.lapseBoundary_only s i
  · exact State.lapseBoundary_only s i
  · rfl
  · rfl
  · rfl

/-- The state is as `s` but for its records, slots, feeds and device scope. -/
def State.RoutesMoved (s u : State) : Prop :=
  ∃ routes slots feeds device, u = { s with routes := routes, slots := slots, feeds := feeds, device := device }

theorem State.routesBoundary_moved (s : State) (t : TimelineId) (parity : Parity) :
    s.RoutesMoved (s.routesBoundary t parity) := by
  refine List.foldl_keeps s.RoutesMoved _ _ s ⟨_, _, _, _, rfl⟩ ?_
  rintro u i ⟨routes, slots, feeds, device, rfl⟩
  split
  · rw [State.routeBoundary_only]
    exact ⟨_, _, _, _, rfl⟩
  · exact ⟨_, _, _, _, rfl⟩

theorem State.routesBoundary_only (s : State) (t : TimelineId) (parity : Parity) :
    s.routesBoundary t parity =
      { s with
        routes := (s.routesBoundary t parity).routes, slots := (s.routesBoundary t parity).slots
        feeds := (s.routesBoundary t parity).feeds, device := (s.routesBoundary t parity).device } := by
  obtain ⟨routes, slots, feeds, device, h⟩ := s.routesBoundary_moved t parity
  rw [h]

/-- The state is as `s` but for its records and ports. -/
def State.PortsMoved (s u : State) : Prop := ∃ routes ports, u = { s with routes := routes, ports := ports }

theorem State.portsBoundary_moved (s : State) (t : TimelineId) (parity : Parity) (house : Option Timecode) :
    s.PortsMoved (s.portsBoundary t parity house) := by
  refine List.foldl_keeps s.PortsMoved _ _ s ⟨_, _, rfl⟩ ?_
  rintro u p ⟨routes, ports, rfl⟩
  split
  · rw [State.portBoundary_only]
    exact ⟨_, _, rfl⟩
  · exact ⟨_, _, rfl⟩

theorem State.portsBoundary_only (s : State) (t : TimelineId) (parity : Parity) (house : Option Timecode) :
    s.portsBoundary t parity house =
      { s with
        routes := (s.portsBoundary t parity house).routes, ports := (s.portsBoundary t parity house).ports } := by
  obtain ⟨routes, ports, h⟩ := s.portsBoundary_moved t parity house
  rw [h]

/-- The state as the records of a boundary leave it, its timeline advanced before. -/
def State.afterRoutes (s : State) (t : TimelineId) : State :=
  (s.setTimeline t (s.timeline t).boundary).routesBoundary t (s.timeline t).nextParity

/-- The state as the ports of a boundary leave it, after the records. -/
def State.afterPorts (s : State) (t : TimelineId) : State :=
  (s.afterRoutes t).portsBoundary t (s.timeline t).nextParity (some (s.timeline t).nextTimecode)

theorem State.boundary_eq (s : State) (t : TimelineId) :
    s.boundary t =
      (s.afterPorts t).monitorBoundary t (s.timeline t).nextParity (some (s.timeline t).nextTimecode) := rfl

theorem exec_outputBoundary (s : State) (t : TimelineId) (h : (s.timeline t).state = .running) :
    exec (.outputBoundary t) s = .next (s.boundary t).notify :=
  congrArg Host.Outcome.next (if_pos h)

theorem State.setTimeline_only (s : State) (t : TimelineId) (tl : Timeline) :
    s.setTimeline t tl =
      { s with timelineA := (s.setTimeline t tl).timelineA, timelineB := (s.setTimeline t tl).timelineB } := by
  cases t <;> rfl

theorem State.afterRoutes_only (s : State) (t : TimelineId) :
    s.afterRoutes t =
      { s.setTimeline t (s.timeline t).boundary with
        routes := (s.afterRoutes t).routes, slots := (s.afterRoutes t).slots, feeds := (s.afterRoutes t).feeds
        device := (s.afterRoutes t).device } :=
  State.routesBoundary_only _ _ _

theorem State.afterPorts_only (s : State) (t : TimelineId) :
    s.afterPorts t =
      { s.afterRoutes t with routes := (s.afterPorts t).routes, ports := (s.afterPorts t).ports } :=
  State.portsBoundary_only _ _ _ _

/-- A boundary moves its timeline, the records, the slots, the feeds, the ports, the monitor and the device scope. -/
theorem State.boundary_only (s : State) (t : TimelineId) :
    s.boundary t =
      { s.setTimeline t (s.timeline t).boundary with
        routes := (s.afterPorts t).routes, slots := (s.boundary t).slots, feeds := (s.afterRoutes t).feeds
        ports := (s.afterPorts t).ports, monitor := (s.boundary t).monitor, device := (s.afterRoutes t).device } := by
  rw [State.boundary_eq, State.monitorBoundary_only, State.afterPorts_only, State.afterRoutes_only]

/-! ## What a boundary makes of a record (R62 to R64, R71, R90) -/

theorem Route.runBoundary_fst_slots (r : Route) (period : Nat) (profile : Profile) (parity : Parity)
    (slots other : SlotTable) :
    (r.runBoundary period profile parity slots).1 = (r.runBoundary period profile parity other).1 := by
  unfold Route.runBoundary
  dsimp only
  split <;> rfl

/-- The record of a STARVED or LAPSED route after a boundary (R63, R64). -/
def Route.afterLapse (r : Route) : Route :=
  if r.advanceLapse.retireDue then (r.advanceLapse.endLife .free).vacate
  else if r.advanceLapse.lapseDue then r.advanceLapse.enterLapsed
  else r.advanceLapse

/-- The record of a route on the timeline after a boundary, before its port acts. -/
def Route.boundary (r : Route) (period : Nat) (profile : Profile) (parity : Parity) : Route :=
  match r.state with
  | .running => (r.runBoundary period profile parity (Vector.replicate 128 Slot.reset)).1
  | .held => if 2 ≤ r.window.length then r.stepPhase period else r
  | .starved => r.afterLapse
  | .lapsed => r.afterLapse
  | .closing => r.vacate
  | .priming => r
  | .free => r

/-- Whether a boundary retires the record (R64). -/
def Route.retires (r : Route) : Bool :=
  (r.state == .starved || r.state == .lapsed) && r.advanceLapse.retireDue

theorem State.lapseBoundary_route (s : State) (i j : RouteId) :
    (s.lapseBoundary i).route j = if i = j then (s.route i).afterLapse else s.route j := by
  unfold State.lapseBoundary Route.afterLapse
  dsimp only
  split
  · have hself : (s.setRoute i (s.route i).advanceLapse).route i = (s.route i).advanceLapse :=
      State.setRoute_route_self s i _
    have hretire : ((s.setRoute i (s.route i).advanceLapse).retire i).route j =
        ((s.setRoute i (s.route i).advanceLapse).setRoute i
          (((s.setRoute i (s.route i).advanceLapse).route i).endLife .free).vacate).route j := rfl
    rw [hretire, hself, State.setRoute_route]
    split
    · rfl
    · next hij => rw [State.setRoute_route, if_neg hij]
  · split
    · exact State.setRoute_route s i j _
    · exact State.setRoute_route s i j _

theorem State.routeBoundary_route (s : State) (parity : Parity) (i j : RouteId) :
    (s.routeBoundary parity i).route j =
      if i = j then
        (s.route i).boundary (s.feed (s.route i).feed).period (s.profile (s.route i).setting.profile) parity
      else s.route j := by
  have hset : ∀ r, (s.setRoute i r).route j = if i = j then r else s.route j := State.setRoute_route s i j
  have hsame : s.route j = if i = j then s.route i else s.route j := by
    split
    · next hij => rw [hij]
    · rfl
  unfold State.routeBoundary Route.boundary
  cases (s.route i).state <;> dsimp only
  · exact hsame
  · exact hsame
  · rw [Route.runBoundary_fst_slots _ _ _ _ _ s.slots]
    exact hset _
  · unfold State.heldBoundary
    dsimp only
    split
    · exact hset _
    · exact hsame
  · exact State.lapseBoundary_route s i j
  · exact State.lapseBoundary_route s i j
  · exact hset _

theorem State.routeBoundary_feed (s : State) (parity : Parity) (i : RouteId) (f : FeedId) :
    (s.routeBoundary parity i).feed f =
      { s.feed f with routeCount := ((s.routeBoundary parity i).feed f).routeCount } := by
  have hlapse : (s.lapseBoundary i).feed f =
      { s.feed f with routeCount := ((s.lapseBoundary i).feed f).routeCount } := by
    unfold State.lapseBoundary
    dsimp only
    split
    · have hretire : ((s.setRoute i (s.route i).advanceLapse).retire i).feed f =
          (s.setFeed ((s.setRoute i (s.route i).advanceLapse).route i).feed
            (s.feed ((s.setRoute i (s.route i).advanceLapse).route i).feed).dropRoute).feed f := rfl
      rw [hretire, State.setFeed_feed]
      split
      · next h => rw [h]; rfl
      · rfl
    · split <;> rfl
  unfold State.routeBoundary
  split
  · rfl
  · unfold State.heldBoundary
    dsimp only
    split <;> rfl
  · exact hlapse
  · exact hlapse
  · rfl
  · rfl
  · rfl

/-! ## The fold over the records -/

/-- The records of a list of indices take their turns at a boundary. -/
def State.routesTurn (t : TimelineId) (parity : Parity) (l : List RouteId) (s : State) : State :=
  l.foldl (fun s i => if s.portTimeline (s.route i).port = t then s.routeBoundary parity i else s) s

theorem State.routesBoundary_eq (s : State) (t : TimelineId) (parity : Parity) :
    s.routesBoundary t parity = State.routesTurn t parity (List.finRange 16) s := rfl

/-- The record that one turn leaves. -/
def State.turned (s : State) (t : TimelineId) (parity : Parity) (i : RouteId) : Route :=
  if s.portTimeline (s.route i).port = t then
    (s.route i).boundary (s.feed (s.route i).feed).period (s.profile (s.route i).setting.profile) parity
  else s.route i

theorem State.turn_route (s : State) (t : TimelineId) (parity : Parity) (i j : RouteId) :
    (if s.portTimeline (s.route i).port = t then s.routeBoundary parity i else s).route j =
      if i = j then s.turned t parity i else s.route j := by
  unfold State.turned
  split
  · exact State.routeBoundary_route s parity i j
  · split
    · next h => rw [h]
    · rfl

/-- A record that has not had its turn finds what its turn reads as it stood. -/
theorem State.turn_turned (s : State) (t : TimelineId) (parity : Parity) (i j : RouteId) (hij : i ≠ j) :
    (if s.portTimeline (s.route i).port = t then s.routeBoundary parity i else s).turned t parity j =
      s.turned t parity j := by
  split
  · have hroute : (s.routeBoundary parity i).route j = s.route j := by
      rw [State.routeBoundary_route, if_neg hij]
    have hfeed : ∀ f, ((s.routeBoundary parity i).feed f).period = (s.feed f).period := fun f => by
      rw [State.routeBoundary_feed]
    have hport : ∀ p, (s.routeBoundary parity i).portTimeline p = s.portTimeline p := fun p => by
      rw [State.routeBoundary_only]; rfl
    have hprofile : ∀ k, (s.routeBoundary parity i).profile k = s.profile k := fun k => by
      rw [State.routeBoundary_only]; rfl
    unfold State.turned
    rw [hroute, hfeed, hport, hprofile]
  · rfl

theorem State.routesTurn_route (t : TimelineId) (parity : Parity) (l : List RouteId) (hl : l.Nodup) (s : State)
    (j : RouteId) :
    (State.routesTurn t parity l s).route j = if j ∈ l then s.turned t parity j else s.route j := by
  induction l generalizing s with
  | nil => rfl
  | cons i l ih =>
    obtain ⟨hi, hl⟩ := List.nodup_cons.1 hl
    have hturn := ih hl (if s.portTimeline (s.route i).port = t then s.routeBoundary parity i else s)
    refine hturn.trans ?_
    by_cases hij : i = j
    · subst hij
      rw [if_neg hi, State.turn_route, if_pos rfl, if_pos (List.mem_cons_self)]
    · rw [State.turn_turned _ _ _ _ _ hij, State.turn_route, if_neg hij]
      simp only [List.mem_cons, Ne.symm hij, false_or]

/-- What the records of a boundary become: each by its own turn. -/
theorem State.routesBoundary_route (s : State) (t : TimelineId) (parity : Parity) (j : RouteId) :
    (s.routesBoundary t parity).route j = s.turned t parity j := by
  rw [State.routesBoundary_eq, State.routesTurn_route t parity _ (List.nodup_finRange 16),
    if_pos (List.mem_finRange j)]

theorem State.routesBoundary_feed (s : State) (t : TimelineId) (parity : Parity) (f : FeedId) :
    (s.routesBoundary t parity).feed f =
      { s.feed f with routeCount := ((s.routesBoundary t parity).feed f).routeCount } := by
  refine List.foldl_keeps (fun u : State => u.feed f = { s.feed f with routeCount := (u.feed f).routeCount }) _ _ s
    rfl fun u i hu => ?_
  dsimp only
  split
  · rw [State.routeBoundary_feed, hu]
  · exact hu

end Sys2Proof.Machine

/-! The summary word and the line (R161), and the Command Unit's states (R154, R163), through every step. -/

namespace Sys2Proof.Machine

/-! ## The summary word -/

theorem State.SummaryOk.congr {s t : State} (hs : s.SummaryOk) (routes : t.routes = s.routes)
    (feeds : t.feeds = s.feeds) (device : t.device = s.device) : t.SummaryOk := by
  unfold State.SummaryOk
  rw [routes, feeds, device]
  exact hs

theorem bitsNat_eq_zero (l : List Bool) (h : ∀ b ∈ l, b = false) : bitsNat l = 0 := by
  induction l with
  | nil => rfl
  | cons b l ih =>
    rw [bitsNat, h b (List.mem_cons_self), ih fun c hc => h c (List.mem_cons_of_mem _ hc)]
    rfl

/-- Nothing pends where no set holds an event (R161). -/
theorem summaryWord_eq_zero (routes : RouteTable) (feeds : Vector Feed 8) (d : Device)
    (hroutes : ∀ i, (tget routes i).events = 0) (hfeeds : ∀ f, (tget feeds f).events = 0) (hd : d.events = 0) :
    summaryWord routes feeds d = 0 := by
  have hroute : ∀ r ∈ routes.toList, r.events = 0 := by
    intro r hr
    obtain ⟨n, hn, rfl⟩ := List.getElem_of_mem hr
    simpa [tget] using hroutes ⟨n, by simpa using hn⟩
  have hfeed : ∀ f ∈ feeds.toList, f.events = 0 := by
    intro f hf
    obtain ⟨n, hn, rfl⟩ := List.getElem_of_mem hf
    simpa [tget] using hfeeds ⟨n, by simpa using hn⟩
  rw [summaryWord, bitsNat_eq_zero]
  · rfl
  · intro b hb
    simp only [summaryBits, List.mem_append, List.mem_map, List.mem_singleton] at hb
    rcases hb with (⟨r, hr, rfl⟩ | ⟨f, hf, rfl⟩) | rfl
    · simp [hroute r hr]
    · simp [hfeed f hf]
    · simp [hd]

theorem State.SummaryOk.of_reset {t : State} (device : t.device = Device.reset) (hroutes : ∀ i, (t.route i).events = 0)
    (hfeeds : ∀ f, (t.feed f).events = 0) : t.SummaryOk := by
  have hzero := summaryWord_eq_zero t.routes t.feeds t.device hroutes hfeeds (by rw [device]; rfl)
  unfold State.SummaryOk
  rw [hzero, device]
  exact ⟨rfl, rfl⟩

theorem State.powerOn_summaryOk (s : State) (pin : Bool) : (s.powerOn pin).SummaryOk :=
  .of_reset rfl (fun i => by simp [State.route, State.powerOn, State.reset, Route.free])
    (fun f => by simp [State.feed, State.powerOn, State.reset, Feed.reset])

theorem State.controlReset_summaryOk (s : State) : s.controlReset.SummaryOk :=
  .of_reset rfl (fun i => by simp [State.route, State.controlReset, Route.free])
    (fun f => by simp [State.feed, State.controlReset, Feed.reset])

theorem State.SummaryOk.take {s : State} (hs : s.SummaryOk) (k : CmdKind)
    (effect : List Word → State → State × Reply) : (take k effect s).SummaryOk := by
  unfold Machine.take
  split
  · split
    · exact State.notify_summaryOk _
    · exact hs
  · exact hs

/-- An empty ring evaluates to IDLE and raises nothing (R151). -/
theorem CommandUnit.judge_of_empty (cu : CommandUnit) (h : cu.held = 0) : cu.judge = .empty := if_pos h

/-- A ring reset leaves every event as it is: the rings it leaves are empty (R155). -/
theorem State.ringReset_device (s : State) : s.ringReset.device = s.device := by
  unfold State.ringReset State.evaluateUnlessStopped
  split
  · rfl
  · unfold State.evaluate
    rw [CommandUnit.judge_of_empty _ rfl]
    rfl

theorem State.SummaryOk.ringReset {s : State} (hs : s.SummaryOk) : s.ringReset.SummaryOk :=
  hs.congr (State.evaluateUnlessStopped_routes _) (State.evaluateUnlessStopped_feeds _) s.ringReset_device

theorem exec_keeps_summary (i : Instr) (s t : State) (h : exec i s = .next t) (hs : s.SummaryOk) : t.SummaryOk := by
  cases i <;> cases h
  case powerOnReset pin => exact s.powerOn_summaryOk pin
  case controlReset =>
    unfold State.controlResetWrite
    split
    · exact hs
    · exact s.controlReset_summaryOk
  case ringReset => exact hs.ringReset
  case referenceAbsence =>
    split
    · exact State.notify_summaryOk _
    · exact hs
  case outputBoundary =>
    split
    · exact State.notify_summaryOk _
    · exact hs
  case loadEnd =>
    split
    · exact State.notify_summaryOk _
    · exact hs
  case activeLine =>
    rw [State.activeLine_only]
    exact hs.congr rfl rfl rfl
  case ancillaryPacket =>
    rw [State.packet_only]
    exact hs.congr rfl rfl rfl
  case pictureTimecode =>
    rw [State.timecodeIn_only]
    exact hs.congr rfl rfl rfl
  case flashRead => exact hs.congr rfl rfl rfl
  case commandWriteIndexWrite | replyReadIndexWrite | controlWindowWrite | referencePulse | outputLine | pictureStart
      | pictureEnd | silenceExpiry => exact State.notify_summaryOk _
  all_goals exact hs.take _ _

theorem State.SummaryOk.loadPart {s : State} (hs : s.SummaryOk) : s.loadPart.SummaryOk := by
  unfold State.loadPart
  split
  · unfold State.testImage
    split
    · exact State.notify_summaryOk _
    · exact State.notify_summaryOk _
  · exact State.notify_summaryOk _
  · exact State.notify_summaryOk _
  · exact State.notify_summaryOk _
  all_goals exact hs

/-! ## The Command Unit's states -/

theorem State.CommandUnitOk.congr {s t : State} (hs : s.CommandUnitOk) (cu : t.cu = s.cu)
    (stage : t.loader.stage = s.loader.stage) : t.CommandUnitOk := by
  refine ⟨?_, ?_⟩
  · rw [cu]
    exact hs.fault
  · rw [cu, stage]
    exact hs.loading

/-- An evaluation of the ring without a fault and without a load (R151, R154). -/
theorem State.evaluate_commandUnitOk (s : State) (fault : s.cu.fault = none) (stage : s.loader.stage = .none) :
    s.evaluate.CommandUnitOk := by
  have hcu : s.evaluate.cu = s.cu.settle s.cu.judge := rfl
  cases hjudge : s.cu.judge <;> rw [hjudge] at hcu <;>
    exact ⟨by simp [hcu, CommandUnit.settle, fault], by simp [hcu, stage, CommandUnit.settle]⟩

theorem State.CommandUnitOk.fault_none {s : State} (hs : s.CommandUnitOk) (h : s.cu.state ≠ .fault) :
    s.cu.fault = none := by
  rw [← Option.not_isSome_iff_eq_none]
  exact fun hsome => h (hs.fault.1 hsome)

theorem State.CommandUnitOk.stage_none {s : State} (hs : s.CommandUnitOk) (h : s.cu.state ≠ .loading) :
    s.loader.stage = .none := by
  by_contra hstage
  exact h (hs.loading.2 hstage)

theorem State.CommandUnitOk.evaluateUnlessStopped {s : State} (hs : s.CommandUnitOk) :
    s.evaluateUnlessStopped.CommandUnitOk := by
  unfold State.evaluateUnlessStopped
  split
  · exact hs
  · next h =>
    exact s.evaluate_commandUnitOk (hs.fault_none fun hf => h (.inr hf)) (hs.stage_none fun hl => h (.inl hl))

theorem State.CommandUnitOk.writeCommandIndex {s : State} (hs : s.CommandUnitOk) (value : Word) :
    (s.writeCommandIndex value).CommandUnitOk :=
  State.CommandUnitOk.evaluateUnlessStopped ⟨hs.fault, hs.loading⟩

theorem State.CommandUnitOk.writeReplyIndex {s : State} (hs : s.CommandUnitOk) (value : Word) :
    (s.writeReplyIndex value).CommandUnitOk :=
  State.CommandUnitOk.evaluateUnlessStopped ⟨hs.fault, hs.loading⟩

theorem State.CommandUnitOk.ringReset {s : State} (hs : s.CommandUnitOk) : s.ringReset.CommandUnitOk := by
  refine State.CommandUnitOk.evaluateUnlessStopped ⟨?_, ?_⟩
  · dsimp only [CommandUnit.clearRings]
    split <;> simp
  · refine Iff.trans ?_ hs.loading
    dsimp only
    split
    · next h => simp [h]
    · next h => simp [h]

theorem State.controlResetWrite_commandUnitOk {s : State} (hs : s.CommandUnitOk) :
    s.controlResetWrite.CommandUnitOk := by
  unfold State.controlResetWrite
  split
  · exact hs
  · exact ⟨by simp [State.controlReset, CommandUnit.clearRings], by simp [State.controlReset, Loader.start]⟩

theorem State.CommandUnitOk.windowWrite {s : State} (hs : s.CommandUnitOk) (address : BitVec 11) (value : Word) :
    (s.windowWrite address value).CommandUnitOk := by
  unfold State.windowWrite State.writeControl
  split_ifs
  · exact ⟨hs.fault, hs.loading⟩
  · exact ⟨hs.fault, hs.loading⟩
  · exact hs.writeCommandIndex value
  · exact hs.writeReplyIndex value
  · exact State.controlResetWrite_commandUnitOk hs
  · exact hs.ringReset
  · exact hs
  · exact hs

/-- A take finds the Command Unit without a fault and without a load, and ends in an evaluation (R151). -/
theorem State.CommandUnitOk.take {s : State} (hs : s.CommandUnitOk) (k : CmdKind)
    (effect : List Word → State → State × Reply)
    (heffect : ∀ args, (effect args s).1.cu = s.cu ∧ (effect args s).1.loader = s.loader) :
    (take k effect s).CommandUnitOk := by
  unfold Machine.take
  split
  · next c hdue =>
    obtain ⟨hstate, -⟩ := s.dueCommand_eq c hdue
    obtain ⟨hcu, hloader⟩ := heffect c.args
    have hfault : s.cu.fault = none := hs.fault_none (by simp [hstate])
    have hstage : s.loader.stage = .none := hs.stage_none (by simp [hstate])
    split
    · refine State.CommandUnitOk.congr (State.evaluate_commandUnitOk
        { (effect c.args s).1.notify with cu := (effect c.args s).1.notify.cu.reply c (effect c.args s).2 } ?_ ?_)
        rfl rfl
      · exact (congrArg CommandUnit.fault hcu).trans hfault
      · exact (congrArg Loader.stage hloader).trans hstage
    · exact hs
  · exact hs

theorem stageFor_ne_none (header : List Word16) (l : List ModuleId) : stageFor header l ≠ .none := by
  induction l with
  | nil => simp [stageFor]
  | cons m l ih =>
    rw [stageFor]
    split
    · exact ih
    · simp

/-- A flash transaction neither begins nor ends a load (R163). -/
theorem Loader.read_stage_none (l : Loader) (words : Option (List Word16)) :
    (l.read words).stage = .none ↔ l.stage = .none := by
  unfold Loader.read
  split
  · next h =>
    simp only [h, reduceCtorEq, iff_false]
    unfold Loader.readHeader
    split
    · simp
    · split
      · exact stageFor_ne_none _ _
      · simp
  · next h =>
    simp only [h, reduceCtorEq, iff_false]
    unfold Loader.readLength
    split
    · simp
    · split
      · exact stageFor_ne_none _ _
      · split <;> simp
  · next h =>
    simp only [h, reduceCtorEq, iff_false]
    unfold Loader.readBody
    split
    · simp
    · exact stageFor_ne_none _ _
  all_goals exact Iff.rfl

/-! ## The Command Unit during a load -/

theorem State.applyModule_cu (s : State) (m : ModuleId) : (s.applyModule m).cu = s.cu := by
  cases m <;> unfold State.applyModule
  · rw [State.applyHouse_only]
  · rfl
  · rw [State.applyProfiles_only]
  · rw [State.applyFeeds_only]
  · rw [State.applyPresets_only]

theorem State.openPreset_cu (s : State) (n : PresetId) : (s.openPreset n).cu = s.cu := by
  rw [State.openPreset_only]

theorem State.testImage_cu (s : State) : s.testImage.cu = s.cu := by
  unfold State.testImage
  split <;> rfl

theorem openAll_cu (l : List PresetId) (s : State) : (openAll l s).cu = s.cu := by
  induction l generalizing s with
  | nil => rfl
  | cons n l ih => exact (ih _).trans (s.openPreset_cu n)

theorem applyAll_cu (l : List ModuleId) (s : State) : (applyAll l s).cu = s.cu := by
  induction l generalizing s with
  | nil => exact openAll_cu _ _
  | cons m l ih => exact (ih _).trans (s.applyModule_cu m)

theorem State.restOfImage_cu (s : State) : s.restOfImage.cu = s.cu := by
  unfold State.restOfImage
  split
  · exact applyAll_cu _ s
  · exact openAll_cu _ s
  all_goals rfl

theorem State.restOfLoad_cu (s : State) : s.restOfLoad.cu = s.cu := by
  unfold State.restOfLoad
  split
  · exact (State.restOfImage_cu _).trans s.testImage_cu
  · exact s.restOfImage_cu

theorem State.concludeLoad_only (s : State) :
    s.concludeLoad = { s with loader := s.concludeLoad.loader, device := s.concludeLoad.device } := by
  unfold State.concludeLoad
  split <;> rfl

theorem State.concludeLoad_stage (s : State) : s.concludeLoad.loader.stage = .none := by
  unfold State.concludeLoad
  split <;> rfl

theorem Loader.stage_ne_none_of_readingDone (l : Loader) (h : l.readingDone = true) : l.stage ≠ .none := by
  intro hstage
  rw [Loader.readingDone, hstage] at h
  exact absurd h (by decide)

/-- The end of a load leaves LOADING for what an evaluation gives (R170). -/
theorem State.CommandUnitOk.endLoad {s : State} (hs : s.CommandUnitOk) (tick : Tick)
    (done : s.loader.readingDone = true) : (s.endLoad tick).CommandUnitOk := by
  have hloading : s.cu.state = .loading := hs.loading.2 (s.loader.stage_ne_none_of_readingDone done)
  have hfault : s.cu.fault = none := hs.fault_none (by simp [hloading])
  have hcu : s.restOfLoad.concludeLoad.cu = s.cu := by rw [State.concludeLoad_only]; exact s.restOfLoad_cu
  have hstage := s.restOfLoad.concludeLoad_stage
  unfold State.endLoad
  dsimp only
  split
  · exact State.evaluate_commandUnitOk _ ((congrArg CommandUnit.fault hcu).trans hfault) hstage
  · exact State.evaluate_commandUnitOk _ ((congrArg CommandUnit.fault hcu).trans hfault) hstage

theorem State.CommandUnitOk.loadPart {s : State} (hs : s.CommandUnitOk) : s.loadPart.CommandUnitOk := by
  have part : ∀ {u : State} {stage : LoadStage}, s.loader.stage ≠ .none → u.cu = s.cu → stage ≠ .none →
      (u.partDone stage).CommandUnitOk := by
    intro u stage hload hcu hne
    have hpart : (u.partDone stage).cu = s.cu := hcu
    refine ⟨by rw [hpart]; exact hs.fault, ?_⟩
    rw [hpart, hs.loading]
    exact iff_of_true hload hne
  unfold State.loadPart
  split
  · next h =>
    unfold State.testImage
    split
    · exact part (by simp [h]) rfl (by simp)
    · exact part (by simp [h]) rfl (by simp)
  · next h => exact part (by simp [h]) (s.applyModule_cu _) (by simp)
  · next h => exact part (by simp [h]) rfl (by simp)
  · next h => exact part (by simp [h]) (s.openPreset_cu _) (by simp)
  all_goals exact hs

/-! ## Every step -/

theorem exec_keeps_commandUnit (i : Instr) (s t : State) (h : exec i s = .next t) (hs : s.CommandUnitOk) :
    t.CommandUnitOk := by
  have only : ∀ {u v : State}, u = v → v.cu = s.cu → v.loader = s.loader → u.CommandUnitOk :=
    fun h h1 h2 => hs.congr (by rw [h, h1]) (by rw [h, h2])
  have done : ∀ {k : CmdKind} {effect : List Word → State → State × Reply} (v : List Word → State),
      (∀ args, (effect args s).1 = v args) → (∀ args, (v args).cu = s.cu) → (∀ args, (v args).loader = s.loader) →
      (take k effect s).CommandUnitOk :=
    fun v hv hcu hloader => hs.take _ _ fun args => by rw [hv args]; exact ⟨hcu args, hloader args⟩
  cases i <;> cases h
  case powerOnReset pin => exact ⟨by simp [State.powerOn, State.reset, CommandUnit.reset],
    by simp [State.powerOn, State.reset, CommandUnit.reset, Loader.start]⟩
  case controlReset => exact State.controlResetWrite_commandUnitOk hs
  case ringReset => exact hs.ringReset
  case commandWriteIndexWrite value => exact (hs.writeCommandIndex value).congr rfl rfl
  case replyReadIndexWrite value => exact (hs.writeReplyIndex value).congr rfl rfl
  case controlWindowWrite address value => exact (hs.windowWrite address value).congr rfl rfl
  case routeOpen => exact done _ (fun args => routeOpen_only args s) (fun _ => rfl) (fun _ => rfl)
  case routeAlter => exact done _ (fun args => routeAlter_only args s) (fun _ => rfl) (fun _ => rfl)
  case routeClose => exact done _ (fun args => routeClose_only args s) (fun _ => rfl) (fun _ => rfl)
  case routeRead => exact done _ (fun args => routeRead_only args s) (fun _ => rfl) (fun _ => rfl)
  case routeHold => exact done _ (fun args => routeHold_only args s) (fun _ => rfl) (fun _ => rfl)
  case routeRelease => exact done _ (fun args => routeRelease_only args s) (fun _ => rfl) (fun _ => rfl)
  case routeTrim => exact done _ (fun args => routeTrim_only args s) (fun _ => rfl) (fun _ => rfl)
  case presetOpen => exact done _ (fun args => presetOpen_only args s) (fun _ => rfl) (fun _ => rfl)
  case feedSet => exact done _ (fun args => feedSet_only args s) (fun _ => rfl) (fun _ => rfl)
  case feedRead => exact done _ (fun args => feedRead_only args s) (fun _ => rfl) (fun _ => rfl)
  case trackSet => exact done _ (fun args => trackSet_only args s) (fun _ => rfl) (fun _ => rfl)
  case profileWrite => exact done _ (fun args => profileWrite_only args s) (fun _ => rfl) (fun _ => rfl)
  case profileRead => exact done _ (fun args => profileRead_only args s) (fun _ => rfl) (fun _ => rfl)
  case timelineSet tick => exact done _ (fun args => timelineSet_only tick args s) (fun _ => rfl) (fun _ => rfl)
  case timelineRead => exact done _ (fun args => timelineRead_only args s) (fun _ => rfl) (fun _ => rfl)
  case portSet => exact done _ (fun args => portSet_only args s) (fun _ => rfl) (fun _ => rfl)
  case portMute => exact done _ (fun args => portMute_only args s) (fun _ => rfl) (fun _ => rfl)
  case referenceSet => exact done _ (fun args => referenceSet_only args s) (fun _ => rfl) (fun _ => rfl)
  case monitorSet => exact done _ (fun args => monitorSet_only args s) (fun _ => rfl) (fun _ => rfl)
  case checkSet => exact done _ (fun args => checkSet_only args s) (fun _ => rfl) (fun _ => rfl)
  case eventsTake => exact done _ (fun args => eventsTake_only args s) (fun _ => rfl) (fun _ => rfl)
  case notifySet => exact done _ (fun args => notifySet_only args s) (fun _ => rfl) (fun _ => rfl)
  case deviceRead => exact done _ (fun args => deviceRead_only args s) (fun _ => rfl) (fun _ => rfl)
  case referencePulse => exact hs.congr rfl rfl
  case referenceAbsence =>
    split
    · exact hs.congr rfl rfl
    · exact hs
  case outputBoundary u =>
    split
    · rw [State.boundary_only, State.setTimeline_only]
      exact hs.congr rfl rfl
    · exact hs
  case outputLine o => exact only (congrArg State.notify (State.outputLine_only s o)) rfl rfl
  case pictureStart f tick bottom =>
    exact only (congrArg State.notify (State.pictureStart_only s f tick bottom)) rfl rfl
  case activeLine f pels => exact only (State.activeLine_only s f pels) rfl rfl
  case ancillaryPacket f p => exact only (State.packet_only s f p) rfl rfl
  case pictureTimecode f tc => exact only (State.timecodeIn_only s f tc) rfl rfl
  case pictureEnd f => exact only (congrArg State.notify (State.pictureEnd_only s f)) rfl rfl
  case silenceExpiry f =>
    unfold State.silenceExpiry
    split
    · refine hs.congr ?_ ?_
      · simp only [State.notify_cu, State.feedChanged_cu, State.setFeedPort_cu, State.setFeed_cu]
        rw [State.abandon_only]
      · simp only [State.notify_loader, State.feedChanged_loader, State.setFeedPort_loader, State.setFeed_loader]
        rw [State.abandon_only]
    · exact hs.congr rfl rfl
  case flashRead words =>
    refine ⟨hs.fault, hs.loading.trans (not_congr ?_)⟩
    exact (s.loader.read_stage_none words).symm
  case loadEnd tick =>
    split
    · next done => exact (hs.endLoad tick done).congr rfl rfl
    · exact hs

/-- Settles O59: nearly every command ends in R161's rule, and each keeps the Command Unit's states. -/
theorem stepKeepsSummaryAndCommandUnit : Obligations.StepKeepsSummaryAndCommandUnit := by
  intro s t h
  unfold step at h
  split at h
  · cases h
    exact ⟨State.SummaryOk.loadPart, State.CommandUnitOk.loadPart⟩
  · next c rest _ =>
    exact ⟨fun hs => exec_keeps_summary c _ t h (hs.congr rfl rfl rfl),
      fun hs => exec_keeps_commandUnit c _ t h (hs.congr rfl rfl)⟩

end Sys2Proof.Machine

/-! The slot counts (R38, R47 to R49): the law of each slot's counts while a picture is offered, and what the
operations on the counts do to it. -/

namespace Sys2Proof.Machine

/-! ## One slot -/

/-- A slot that something holds or uses is READY, and a READY slot is held or used, but for the slot `x` that a picture
end offers (R46, R49). -/
def Slot.Lawful (x : Option SlotId) (k : SlotId) (a : Slot) : Prop :=
  (0 < a.hold + a.pin → a.state = .ready) ∧ (a.state = .ready → 0 < a.hold + a.pin ∨ x = some k)

/-- The counts of a slot move: the slot stays lawful, and its state stays or, of a READY slot, becomes FREE. -/
def Slot.Moves (x : Option SlotId) (k : SlotId) (a b : Slot) : Prop :=
  (b.state = a.state ∨ (a.state = .ready ∧ b.state = .free)) ∧ b.Lawful x k

theorem Slot.Moves.refl {x : Option SlotId} {k : SlotId} {a : Slot} (h : a.Lawful x k) : a.Moves x k a :=
  ⟨.inl rfl, h⟩

theorem Slot.Moves.trans {x : Option SlotId} {k : SlotId} {a b c : Slot} (h : a.Moves x k b) (h' : b.Moves x k c) :
    a.Moves x k c := by
  refine ⟨?_, h'.2⟩
  rcases h.1 with h1 | ⟨h1, h2⟩
  · rw [← h1]
    exact h'.1
  · rcases h'.1 with h3 | ⟨h3, -⟩
    · exact .inr ⟨h1, h3.trans h2⟩
    · rw [h2] at h3
      exact absurd h3 (by decide)

/-- Lowered counts, settled (R49). -/
theorem Slot.moves_lower {x : Option SlotId} {k : SlotId} {a : Slot} (h : a.Lawful x k) (n m : Nat) :
    a.Moves x k ({ a with hold := a.hold - n, pin := a.pin - m } : Slot).settle := by
  obtain ⟨used, ready⟩ := h
  have hstate := Slot.settle_state { a with hold := a.hold - n, pin := a.pin - m }
  simp only at hstate
  refine ⟨?_, fun hpos => ?_, fun hready => .inl ?_⟩
  · rw [hstate]
    split
    · next h => exact .inr ⟨h.1, rfl⟩
    · exact .inl rfl
  · simp only [Slot.settle_hold, Slot.settle_pin] at hpos
    rw [hstate, if_neg (by omega)]
    exact used (by omega)
  · rw [hstate] at hready
    split at hready
    · simp at hready
    · next h =>
      simp only [Slot.settle_hold, Slot.settle_pin]
      by_contra hzero
      exact h ⟨hready, by omega, by omega⟩

/-- Raised counts of a READY slot. -/
theorem Slot.moves_raise {x : Option SlotId} {k : SlotId} {a : Slot} (h : a.Lawful x k) (hready : a.state = .ready)
    (n m : Nat) : a.Moves x k { a with hold := a.hold + n, pin := a.pin + m } := by
  refine ⟨.inl rfl, fun _ => hready, fun _ => ?_⟩
  rcases h.2 hready with h | h
  · exact .inl (by dsimp only; omega)
  · exact .inr h

/-! ## The slot table -/

def SlotTable.Lawful (x : Option SlotId) (t : SlotTable) : Prop := ∀ k, (tget t k).Lawful x k

def SlotTable.Moves (x : Option SlotId) (t u : SlotTable) : Prop := ∀ k, (tget t k).Moves x k (tget u k)

theorem SlotTable.Moves.trans {x : Option SlotId} {t u v : SlotTable} (h : SlotTable.Moves x t u)
    (h' : SlotTable.Moves x u v) : SlotTable.Moves x t v := fun k => (h k).trans (h' k)

theorem SlotTable.Moves.lawful {x : Option SlotId} {t u : SlotTable} (h : SlotTable.Moves x t u) :
    SlotTable.Lawful x u := fun k => (h k).2

theorem SlotTable.Lawful.refl {x : Option SlotId} {t : SlotTable} (h : SlotTable.Lawful x t) :
    SlotTable.Moves x t t := fun k => .refl (h k)

theorem SlotTable.unholdAll_moves {x : Option SlotId} {t : SlotTable} (ht : SlotTable.Lawful x t) (l : List SlotId) :
    SlotTable.Moves x t (SlotTable.unholdAll t l) := by
  intro k
  rw [SlotTable.unholdAll_slot]
  split
  · exact Slot.moves_lower (ht k) _ 0
  · exact .refl (ht k)

theorem SlotTable.unholdAll_hold (t : SlotTable) (l : List SlotId) (k : SlotId) :
    (tget (SlotTable.unholdAll t l) k).hold = (tget t k).hold - l.count k := by
  rw [SlotTable.unholdAll_slot]
  split
  · exact Slot.settle_hold _
  · next h => rw [List.count_eq_zero.2 h, Nat.sub_zero]

theorem SlotTable.unholdAll_pin (t : SlotTable) (l : List SlotId) (k : SlotId) :
    (tget (SlotTable.unholdAll t l) k).pin = (tget t k).pin := by
  rw [SlotTable.unholdAll_slot]
  split
  · exact Slot.settle_pin _
  · rfl

theorem SlotTable.replacePair_moves {x : Option SlotId} {t : SlotTable} (ht : SlotTable.Lawful x t)
    (old new : List SlotId) (hnew : ∀ k ∈ new, (tget t k).state = .ready) :
    SlotTable.Moves x t (SlotTable.replacePair t old new) := by
  intro k
  rw [SlotTable.replacePair_slot]
  split
  · exact Slot.moves_lower (ht k) 0 _
  · split
    · next h => exact Slot.moves_raise (ht k) (hnew k h.1) 0 _
    · exact .refl (ht k)

theorem SlotTable.replacePair_hold (t : SlotTable) (old new : List SlotId) (k : SlotId) :
    (tget (SlotTable.replacePair t old new) k).hold = (tget t k).hold := by
  rw [SlotTable.replacePair_slot]
  split
  · exact Slot.settle_hold _
  · split <;> rfl

/-- A pair replaced: each slot's pin count loses its place in the old pair and gains one in the new pair (R48). -/
theorem SlotTable.replacePair_pin (t : SlotTable) (old new : List SlotId) (hold : old.Nodup) (hnew : new.Nodup)
    (k : SlotId) (hpin : old.count k ≤ (tget t k).pin) :
    (tget (SlotTable.replacePair t old new) k).pin + old.count k = (tget t k).pin + new.count k := by
  have hcount : ∀ l : List SlotId, l.Nodup → l.count k = if k ∈ l then 1 else 0 := fun l hl => by
    split
    · next h => exact List.count_eq_one_of_mem hl h
    · next h => exact List.count_eq_zero.2 h
  rw [SlotTable.replacePair_slot]
  by_cases h1 : k ∈ old <;> by_cases h2 : k ∈ new <;>
    simp only [h1, h2, hcount old hold, hcount new hnew, not_true_eq_false, not_false_eq_true, and_false, and_true,
      if_true, if_false, and_self, Slot.settle_pin] at hpin ⊢
  omega

theorem SlotTable.releasePair_moves {x : Option SlotId} {t : SlotTable} (ht : SlotTable.Lawful x t)
    (old : List SlotId) :
    SlotTable.Moves x t (SlotTable.releasePair t old) :=
  SlotTable.replacePair_moves ht old [] (by simp)

theorem SlotTable.releasePair_hold (t : SlotTable) (old : List SlotId) (k : SlotId) :
    (tget (SlotTable.releasePair t old) k).hold = (tget t k).hold :=
  SlotTable.replacePair_hold t old [] k

theorem SlotTable.releasePair_pin (t : SlotTable) (old : List SlotId) (hold : old.Nodup) (k : SlotId)
    (hpin : old.count k ≤ (tget t k).pin) :
    (tget (SlotTable.releasePair t old) k).pin + old.count k = (tget t k).pin :=
  SlotTable.replacePair_pin t old [] hold List.nodup_nil k hpin

/-! ## Sums over the records -/

/-- A sum over a list without repeats where one place changes. -/
theorem List.sum_map_change {α : Type} (l : List α) (hl : l.Nodup) (i : α) (hi : i ∈ l) (g h : α → Nat)
    (hother : ∀ j, j ≠ i → h j = g j) : (l.map h).sum + g i = (l.map g).sum + h i := by
  induction l with
  | nil => simp at hi
  | cons a l ih =>
    obtain ⟨ha, hl⟩ := List.nodup_cons.1 hl
    rw [List.map_cons, List.map_cons, List.sum_cons, List.sum_cons]
    rcases List.mem_cons.1 hi with rfl | hi
    · have hrest : l.map h = l.map g := List.map_congr_left fun j hj => hother j fun e => ha (e ▸ hj)
      rw [hrest]
      omega
    · have hrest := ih hl hi
      rw [hother a fun e => ha (e ▸ hi)]
      omega

theorem List.le_sum_map {α : Type} (l : List α) (i : α) (hi : i ∈ l) (g : α → Nat) : g i ≤ (l.map g).sum :=
  List.single_le_sum (fun _ _ => Nat.zero_le _) _ (List.mem_map_of_mem hi)

/-! ## The law of the counts -/

/-- The laws of `State.SlotsOk`, where the slot `x` that a picture end offers may be READY with both counts 0. -/
structure State.SlotsLaw (x : Option SlotId) (s : State) : Prop where
  hold    : ∀ i, (s.slot i).hold = s.holders i
  pin     : ∀ i, (s.slot i).pin = s.users i
  lawful  : SlotTable.Lawful x s.slots
  writing : ∀ i, (s.slot i).state = .writing ↔ ∃ f, (s.feed f).writing = some i
  own     : ∀ f i, (s.feed f).writing = some i → i.val / 16 = f.val ∧ (s.feed f).inFlight = true
  once    : ∀ r, (s.route r).heldSlots.Nodup ∧ (pairList (s.route r).pair).Nodup
  vacant  : ∀ r, (s.route r).state.live = false → (s.route r).window = []
  free    : ∀ r, (s.route r).state = .free → (s.route r).pair = none

theorem State.slotsLaw_none (s : State) : s.SlotsLaw none ↔ s.SlotsOk := by
  constructor
  · rintro ⟨hold, pin, lawful, writing, own, once, vacant, free⟩
    refine ⟨hold, pin, fun i => ⟨fun h => ?_, (lawful i).1⟩, writing, own, once, vacant, free⟩
    exact ((lawful i).2 h).resolve_right (by simp)
  · rintro ⟨hold, pin, ready, writing, own, once, vacant, free⟩
    exact ⟨hold, pin, fun i => ⟨(ready i).2, fun h => .inl ((ready i).1 h)⟩, writing, own, once, vacant, free⟩

theorem State.SlotsLaw.window_le_hold {x : Option SlotId} {s : State} (hs : s.SlotsLaw x) (r : RouteId) (k : SlotId) :
    (s.route r).heldSlots.count k ≤ (s.slot k).hold := by
  rw [hs.hold, State.holders]
  exact Nat.le_add_right_of_le (List.le_sum_map (List.finRange 16) r (List.mem_finRange r)
    fun r => (s.route r).heldSlots.count k)

theorem State.SlotsLaw.pair_le_pin {x : Option SlotId} {s : State} (hs : s.SlotsLaw x) (r : RouteId) (k : SlotId) :
    (pairList (s.route r).pair).count k ≤ (s.slot k).pin := by
  rw [hs.pin, State.users]
  exact Nat.le_add_right_of_le (List.le_sum_map (List.finRange 16) r (List.mem_finRange r)
    fun r => (pairList (s.route r).pair).count k)

theorem State.SlotsLaw.latest_le_hold {x : Option SlotId} {s : State} (hs : s.SlotsLaw x) (k : SlotId) :
    s.monitor.latest.toList.count k ≤ (s.slot k).hold := by
  rw [hs.hold, State.holders]
  exact Nat.le_add_left _ _

theorem State.SlotsLaw.monitorPair_le_pin {x : Option SlotId} {s : State} (hs : s.SlotsLaw x) (k : SlotId) :
    s.monitor.pair.toList.count k ≤ (s.slot k).pin := by
  rw [hs.pin, State.users]
  exact Nat.le_add_left _ _

/-- A slot of a window is READY (R47, R49). -/
theorem State.SlotsLaw.ready_of_window {x : Option SlotId} {s : State} (hs : s.SlotsLaw x) (r : RouteId) (k : SlotId)
    (h : k ∈ (s.route r).heldSlots) : (s.slot k).state = .ready := by
  refine (hs.lawful k).1 ?_
  have hcount := List.count_pos_iff.2 h
  have hle := hs.window_le_hold r k
  change _ < (s.slot k).hold + _
  omega

/-! ## Changes under the law -/

/-- The feeds' writing slots and pictures in flight are as they were. -/
def State.SameFlights (s t : State) : Prop :=
  ∀ f, (t.feed f).writing = (s.feed f).writing ∧ (t.feed f).inFlight = (s.feed f).inFlight

theorem State.SameFlights.of_feeds {s t : State} (h : t.feeds = s.feeds) : s.SameFlights t := fun f => by
  simp only [State.feed, h, and_self]

theorem State.SameFlights.of_tset {s t : State} (f : FeedId) {a : Feed} (h : t.feeds = tset s.feeds f a)
    (hw : a.writing = (s.feed f).writing) (hf : a.inFlight = (s.feed f).inFlight) : s.SameFlights t := by
  intro g
  simp only [State.feed, h, tget_tset]
  split
  · next hfg => subst hfg; exact ⟨hw, hf⟩
  · exact ⟨rfl, rfl⟩

theorem State.SlotsLaw.writing_of_moves {x : Option SlotId} {s t : State} (hs : s.SlotsLaw x)
    (flights : s.SameFlights t) (moves : SlotTable.Moves x s.slots t.slots) (i : SlotId) :
    (t.slot i).state = .writing ↔ ∃ f, (t.feed f).writing = some i := by
  have hfeeds : (∃ f, (t.feed f).writing = some i) ↔ ∃ f, (s.feed f).writing = some i :=
    exists_congr fun f => by rw [(flights f).1]
  rw [hfeeds, ← hs.writing i]
  rcases (moves i).1 with h | ⟨h, h'⟩
  · exact Eq.congr_left h
  · rw [State.slot, State.slot, h, h']
    decide

theorem State.SlotsLaw.own_of_flights {x : Option SlotId} {s t : State} (hs : s.SlotsLaw x)
    (flights : s.SameFlights t) (f : FeedId) (i : SlotId) (h : (t.feed f).writing = some i) :
    i.val / 16 = f.val ∧ (t.feed f).inFlight = true := by
  rw [(flights f).1] at h
  rw [(flights f).2]
  exact hs.own f i h

/-- The laws of one record that the slots' law asks for (R49, R70). -/
structure Route.SlotsOk (r : Route) : Prop where
  once   : r.heldSlots.Nodup ∧ (pairList r.pair).Nodup
  vacant : r.state.live = false → r.window = []
  free   : r.state = .free → r.pair = none

theorem State.SlotsLaw.route {x : Option SlotId} {s : State} (hs : s.SlotsLaw x) (i : RouteId) : (s.route i).SlotsOk :=
  ⟨hs.once i, hs.vacant i, hs.free i⟩

/-- One record changes, with the slot counts of its window and its pair. -/
theorem State.SlotsLaw.setRecord {x : Option SlotId} {s t : State} (hs : s.SlotsLaw x) (i : RouteId) {r : Route}
    (routes : t.routes = tset s.routes i r) (latest : t.monitor.latest = s.monitor.latest)
    (pair : t.monitor.pair = s.monitor.pair) (flights : s.SameFlights t) (record : r.SlotsOk)
    (moves : SlotTable.Moves x s.slots t.slots)
    (hold : ∀ k, (t.slot k).hold + (s.route i).heldSlots.count k = (s.slot k).hold + r.heldSlots.count k)
    (pin : ∀ k, (t.slot k).pin + (pairList (s.route i).pair).count k = (s.slot k).pin + (pairList r.pair).count k) :
    t.SlotsLaw x := by
  have hself : t.route i = r := by simp only [State.route, routes, tget_tset_self]
  have hother : ∀ j, j ≠ i → t.route j = s.route j := fun j hj => by
    simp only [State.route, routes, tget_tset_ne _ _ _ _ (Ne.symm hj)]
  have hrecord : ∀ j, (t.route j).SlotsOk := by
    intro j
    by_cases hj : j = i
    · rw [hj, hself]
      exact record
    · rw [hother j hj]
      exact hs.route j
  refine ⟨fun k => ?_, fun k => ?_, moves.lawful, hs.writing_of_moves flights moves, hs.own_of_flights flights,
    fun j => (hrecord j).once, fun j => (hrecord j).vacant, fun j => (hrecord j).free⟩
  · have hsum := List.sum_map_change (α := RouteId) (List.finRange 16) (List.nodup_finRange 16) i (List.mem_finRange i)
      (fun r => (s.route r).heldSlots.count k) (fun r => (t.route r).heldSlots.count k)
      (fun j hj => by rw [hother j hj])
    have hold' := hold k
    have hs' := hs.hold k
    simp only [hself] at hsum
    rw [State.holders] at hs' ⊢
    rw [latest]
    omega
  · have hsum := List.sum_map_change (α := RouteId) (List.finRange 16) (List.nodup_finRange 16) i (List.mem_finRange i)
      (fun r => (pairList (s.route r).pair).count k) (fun r => (pairList (t.route r).pair).count k)
      (fun j hj => by rw [hother j hj])
    have pin' := pin k
    have hs' := hs.pin k
    simp only [hself] at hsum
    rw [State.users] at hs' ⊢
    rw [pair]
    omega

/-- The monitor changes, with the slot counts of its latest and its pair. -/
theorem State.SlotsLaw.setMonitor {x : Option SlotId} {s t : State} (hs : s.SlotsLaw x) (routes : t.routes = s.routes)
    (flights : s.SameFlights t) (moves : SlotTable.Moves x s.slots t.slots)
    (hold : ∀ k, (t.slot k).hold + s.monitor.latest.toList.count k =
      (s.slot k).hold + t.monitor.latest.toList.count k)
    (pin : ∀ k, (t.slot k).pin + s.monitor.pair.toList.count k = (s.slot k).pin + t.monitor.pair.toList.count k) :
    t.SlotsLaw x := by
  have hroute : ∀ j, t.route j = s.route j := State.route_eq_of_routes_eq routes
  refine ⟨fun k => ?_, fun k => ?_, moves.lawful, hs.writing_of_moves flights moves, hs.own_of_flights flights,
    fun j => hroute j ▸ hs.once j, fun j => hroute j ▸ hs.vacant j, fun j => hroute j ▸ hs.free j⟩
  · have hold' := hold k
    have hs' := hs.hold k
    rw [State.holders] at hs' ⊢
    simp only [hroute]
    omega
  · have pin' := pin k
    have hs' := hs.pin k
    rw [State.users] at hs' ⊢
    simp only [hroute]
    omega

/-- The same slots, with records whose windows, pairs and states count the same. -/
theorem State.SlotsLaw.congr {x : Option SlotId} {s t : State} (hs : s.SlotsLaw x) (slots : t.slots = s.slots)
    (latest : t.monitor.latest = s.monitor.latest) (pair : t.monitor.pair = s.monitor.pair)
    (flights : s.SameFlights t)
    (hroute : ∀ j, (t.route j).window = (s.route j).window ∧ (t.route j).pair = (s.route j).pair ∧
      ((t.route j).state.live = false → (s.route j).state.live = false) ∧
      ((t.route j).state = .free → (s.route j).state = .free)) : t.SlotsLaw x := by
  have hslot : ∀ k, t.slot k = s.slot k := fun k => by simp only [State.slot, slots]
  have hheld : ∀ j, (t.route j).heldSlots = (s.route j).heldSlots := fun j => by
    simp only [Route.heldSlots, (hroute j).1]
  refine ⟨fun k => ?_, fun k => ?_, slots ▸ hs.lawful, fun k => ?_, hs.own_of_flights flights, fun j => ?_,
    fun j h => ?_, fun j h => ?_⟩
  · rw [hslot, hs.hold, State.holders, State.holders, latest]
    simp only [hheld]
  · rw [hslot, hs.pin, State.users, State.users, pair]
    simp only [(hroute _).2.1]
  · rw [hslot, hs.writing k]
    exact exists_congr fun f => by rw [(flights f).1]
  · rw [hheld, (hroute j).2.1]
    exact hs.once j
  · obtain ⟨hw, -, hl, -⟩ := hroute j
    rw [hw]
    exact hs.vacant j (hl h)
  · obtain ⟨-, hp, -, hf⟩ := hroute j
    rw [hp]
    exact hs.free j (hf h)

theorem State.SlotsLaw.of_tables {x : Option SlotId} {s t : State} (hs : s.SlotsLaw x) (routes : t.routes = s.routes)
    (slots : t.slots = s.slots) (latest : t.monitor.latest = s.monitor.latest)
    (pair : t.monitor.pair = s.monitor.pair) (flights : s.SameFlights t) : t.SlotsLaw x :=
  hs.congr slots latest pair flights fun j => by
    rw [State.route_eq_of_routes_eq routes]
    exact ⟨rfl, rfl, id, id⟩

end Sys2Proof.Machine

/-! Every action keeps the slot counts (R47 to R49), and so does every step. -/

namespace Sys2Proof.Machine

/-! ## Records -/

theorem State.SlotsLaw.of_record {x : Option SlotId} {s t : State} (hs : s.SlotsLaw x) (i : RouteId) {r : Route}
    (routes : t.routes = tset s.routes i r) (slots : t.slots = s.slots) (latest : t.monitor.latest = s.monitor.latest)
    (pair : t.monitor.pair = s.monitor.pair) (flights : s.SameFlights t) (hwindow : r.window = (s.route i).window)
    (hpair : r.pair = (s.route i).pair) (hlive : r.state.live = false → (s.route i).state.live = false)
    (hfree : r.state = .free → (s.route i).state = .free) : t.SlotsLaw x := by
  refine hs.congr slots latest pair flights fun j => ?_
  simp only [State.route, routes, tget_tset]
  split
  · next hij => subst hij; exact ⟨hwindow, hpair, hlive, hfree⟩
  · exact ⟨rfl, rfl, id, id⟩

/-- A record whose window is emptied, its slots let go (R65, R70). -/
theorem State.SlotsLaw.dropWindow {x : Option SlotId} {s t : State} (hs : s.SlotsLaw x) (i : RouteId) {r : Route}
    (routes : t.routes = tset s.routes i r) (slots : t.slots = Machine.dropWindow (s.route i) s.slots)
    (latest : t.monitor.latest = s.monitor.latest) (pair : t.monitor.pair = s.monitor.pair)
    (flights : s.SameFlights t) (hwindow : r.window = []) (hpair : r.pair = (s.route i).pair)
    (hfree : r.state = .free → r.pair = none) : t.SlotsLaw x := by
  have hheld : r.heldSlots = [] := by rw [Route.heldSlots, hwindow]; rfl
  have hslot : ∀ k, t.slot k = tget (SlotTable.unholdAll s.slots (s.route i).heldSlots) k := fun k => by
    rw [State.slot, slots]; rfl
  refine hs.setRecord i routes latest pair flights ⟨?_, fun _ => hwindow, hfree⟩ ?_ (fun k => ?_) (fun k => ?_)
  · rw [hheld, hpair]
    exact ⟨List.nodup_nil, (hs.once i).2⟩
  · rw [slots]
    exact SlotTable.unholdAll_moves hs.lawful _
  · have hle := hs.window_le_hold i k
    rw [hslot, SlotTable.unholdAll_hold, hheld, List.count_nil]
    change (s.slot k).hold - _ + _ = _
    omega
  · rw [hslot, SlotTable.unholdAll_pin, hpair]
    rfl

/-- A record whose pair is released (R48). -/
theorem State.SlotsLaw.releasePair {x : Option SlotId} {s t : State} (hs : s.SlotsLaw x) (i : RouteId) {r : Route}
    (routes : t.routes = tset s.routes i r)
    (slots : t.slots = SlotTable.releasePair s.slots (pairList (s.route i).pair))
    (latest : t.monitor.latest = s.monitor.latest) (pair : t.monitor.pair = s.monitor.pair)
    (flights : s.SameFlights t) (hwindow : r.window = (s.route i).window) (hpair : r.pair = none)
    (hvacant : r.state.live = false → r.window = []) : t.SlotsLaw x := by
  have hheld : r.heldSlots = (s.route i).heldSlots := by rw [Route.heldSlots, hwindow]; rfl
  have hslot : ∀ k, t.slot k = tget (SlotTable.releasePair s.slots (pairList (s.route i).pair)) k := fun k => by
    rw [State.slot, slots]
  refine hs.setRecord i routes latest pair flights ⟨?_, hvacant, fun _ => hpair⟩ ?_ (fun k => ?_) (fun k => ?_)
  · rw [hheld, hpair]
    exact ⟨(hs.once i).1, List.nodup_nil⟩
  · rw [slots]
    exact SlotTable.releasePair_moves hs.lawful _
  · rw [hslot, SlotTable.releasePair_hold, hheld]
    rfl
  · rw [hslot, hpair]
    exact SlotTable.releasePair_pin _ _ (hs.once i).2 k (hs.pair_le_pin i k)

/-- A retired record gives back its window and its pair (R64). -/
theorem State.SlotsLaw.retire {x : Option SlotId} {s : State} (hs : s.SlotsLaw x) (i : RouteId)
    (live : (s.route i).state.live = true) : (s.retire i).SlotsLaw x := by
  have hmid : (s.flushInto i { s.route i with window := [] }).SlotsLaw x :=
    hs.dropWindow i rfl rfl rfl rfl (.of_feeds rfl) rfl rfl fun h => by
      have hfree : (s.route i).state = .free := h
      rw [hfree] at live
      exact absurd live (by decide)
  have hself : (s.flushInto i { s.route i with window := [] }).route i = { s.route i with window := [] } :=
    State.setRoute_route_self s i _
  refine hmid.releasePair i (r := ((s.route i).endLife .free).vacate) ?_ ?_ rfl rfl ?_ ?_ rfl fun _ => rfl
  · exact (tset_tset s.routes i _ _).symm
  · rw [hself]
    rfl
  · exact .of_tset (s.route i).feed rfl rfl rfl
  · rw [hself]
    rfl

/-! ## A RUNNING boundary (R84 to R87) -/

theorem Route.runBoundary_of_positions (r : Route) (period : Nat) (profile : Profile) (parity : Parity)
    (slots : SlotTable) (a b : WindowEntry) (h : r.positions (r.nextPhase period) = some (a, b)) :
    (r.runBoundary period profile parity slots).1.pair =
        some (pairOf profile (weightOf (r.nextPhase period)) a b) ∧
      (r.runBoundary period profile parity slots).2 =
        SlotTable.replacePair slots (pairList r.pair)
          (selectSlots (weightOf (r.nextPhase period)) a.slot b.slot).list := by
  unfold Route.runBoundary
  simp only [h, and_true]
  rw [Route.select, Route.check_frame, Route.countClamp_frame]
  rfl

theorem Route.runBoundary_of_none (r : Route) (period : Nat) (profile : Profile) (parity : Parity)
    (slots : SlotTable) (h : r.positions (r.nextPhase period) = none) :
    (r.runBoundary period profile parity slots).1.pair = r.pair ∧
      (r.runBoundary period profile parity slots).2 = slots := by
  unfold Route.runBoundary
  simp only [h, and_true]
  rw [Route.countClamp_frame]
  rfl

theorem Route.positions_eq_some (r : Route) (phase : Int) (a b : WindowEntry) :
    r.positions phase = some (a, b) ↔
      r.window[positionA phase]? = some a ∧ r.window[positionA phase + 1]? = some b := by
  unfold Route.positions
  split
  · next h1 h2 => simp [h1, h2]
  · next h => simp only [reduceCtorEq, false_iff]; exact fun ⟨h1, h2⟩ => h a b h1 h2

/-- A pair of two positions of a window whose slots are each its own (R87). -/
theorem Route.select_nodup {r : Route} (h : r.heldSlots.Nodup) (phase : Int) (w : Nat) (a b : WindowEntry)
    (hpos : r.positions phase = some (a, b)) :
    (selectSlots w a.slot b.slot).list.Nodup ∧ ∀ k ∈ (selectSlots w a.slot b.slot).list, k ∈ r.heldSlots := by
  obtain ⟨ha, hb⟩ := (r.positions_eq_some phase a b).1 hpos
  have hmem : a.slot ∈ r.heldSlots ∧ b.slot ∈ r.heldSlots :=
    ⟨List.mem_map_of_mem (List.mem_of_getElem? ha), List.mem_map_of_mem (List.mem_of_getElem? hb)⟩
  have hne : a.slot ≠ b.slot := by
    have ha' : r.heldSlots[positionA phase]? = some a.slot := by rw [Route.heldSlots, List.getElem?_map, ha]; rfl
    have hb' : r.heldSlots[positionA phase + 1]? = some b.slot := by rw [Route.heldSlots, List.getElem?_map, hb]; rfl
    intro hab
    obtain ⟨hlt, -⟩ := List.getElem?_eq_some_iff.1 hb'
    exact List.nodup_iff_getElem?_ne_getElem?.1 h _ _ (Nat.lt_succ_self _) hlt (by rw [ha', hb', hab])
  unfold selectSlots
  split
  · exact ⟨List.nodup_singleton _, by simpa [PairSlots.list] using hmem.1⟩
  · split
    · exact ⟨List.nodup_singleton _, by simpa [PairSlots.list] using hmem.2⟩
    · exact ⟨by simpa [PairSlots.list] using hne, by simpa [PairSlots.list] using hmem⟩

theorem State.SlotsLaw.running {x : Option SlotId} {s : State} (hs : s.SlotsLaw x) (i : RouteId) (parity : Parity)
    (running : (s.route i).state = .running) : (s.runningBoundary i parity).SlotsLaw x := by
  unfold State.runningBoundary
  dsimp only
  have hframe := Route.runBoundary_frame (s.route i) (s.feed (s.route i).feed).period
    (s.profile (s.route i).setting.profile) parity s.slots
  have hnone := Route.runBoundary_of_none (s.route i) (s.feed (s.route i).feed).period
    (s.profile (s.route i).setting.profile) parity s.slots
  have hsome := Route.runBoundary_of_positions (s.route i) (s.feed (s.route i).feed).period
    (s.profile (s.route i).setting.profile) parity s.slots
  generalize (s.route i).runBoundary (s.feed (s.route i).feed).period
    (s.profile (s.route i).setting.profile) parity s.slots = res at hframe hnone hsome
  have hwindow : res.1.window = (s.route i).window := by rw [hframe]; rfl
  have hheld : res.1.heldSlots = (s.route i).heldSlots := by rw [Route.heldSlots, hwindow]; rfl
  have hrun : res.1.state = .running := by rw [hframe]; exact running
  have hvacant : res.1.state.live = false → res.1.window = [] := fun h => by
    rw [hrun] at h
    exact absurd h (by decide)
  have hfree : res.1.state = .free → res.1.pair = none := fun h => by
    rw [hrun] at h
    exact absurd h (by decide)
  cases hpos : (s.route i).positions ((s.route i).nextPhase (s.feed (s.route i).feed).period) with
  | none =>
    obtain ⟨hpair, hslots⟩ := hnone hpos
    exact hs.of_record i rfl hslots rfl rfl (.of_feeds rfl) hwindow hpair (by simp [hrun, running])
      (by simp [hrun])
  | some ab =>
    obtain ⟨a, b⟩ := ab
    obtain ⟨hpair, hslots⟩ := hsome a b hpos
    obtain ⟨hnodup, hmem⟩ := Route.select_nodup (hs.once i).1 _
      (weightOf ((s.route i).nextPhase (s.feed (s.route i).feed).period)) a b hpos
    rw [hslots]
    refine hs.setRecord i (r := res.1) rfl rfl rfl (.of_feeds rfl) ⟨?_, hvacant, hfree⟩ ?_ (fun k => ?_) (fun k => ?_)
    · rw [hheld, hpair]
      exact ⟨(hs.once i).1, hnodup⟩
    · exact SlotTable.replacePair_moves hs.lawful _ _ fun k hk => hs.ready_of_window i k (hmem k hk)
    · rw [hheld]
      exact congrArg (· + _) (SlotTable.replacePair_hold _ _ _ k)
    · rw [hpair]
      exact SlotTable.replacePair_pin _ _ _ (hs.once i).2 hnodup k (hs.pair_le_pin i k)

/-! ## The monitor (R145, R147) -/

theorem State.SlotsLaw.setView {x : Option SlotId} {s : State} (hs : s.SlotsLaw x) (view : MonitorView) :
    (s.setView view).SlotsLaw x := by
  have hslots : (s.setView view).slots = SlotTable.unholdAll (SlotTable.releasePair s.slots s.monitor.pair.toList)
      (if s.monitor.view.sameFeed view then [] else s.monitor.latest.toList) := rfl
  have hslot : ∀ k, (s.setView view).slot k = tget (SlotTable.unholdAll
      (SlotTable.releasePair s.slots s.monitor.pair.toList)
      (if s.monitor.view.sameFeed view then [] else s.monitor.latest.toList)) k := fun _ => rfl
  have hnodup : s.monitor.pair.toList.Nodup := by cases s.monitor.pair <;> simp
  have hrelease := SlotTable.releasePair_moves hs.lawful s.monitor.pair.toList
  refine hs.setMonitor rfl (.of_feeds rfl) ?_ (fun k => ?_) (fun k => ?_)
  · rw [hslots]
    exact hrelease.trans (SlotTable.unholdAll_moves hrelease.lawful _)
  · have hle := hs.latest_le_hold k
    rw [hslot, SlotTable.unholdAll_hold, SlotTable.releasePair_hold]
    dsimp only [State.setView]
    change (s.slot k).hold - _ + _ = _
    split
    · rw [List.count_nil]; omega
    · simp only [Option.toList_none, List.count_nil]; omega
  · rw [hslot, SlotTable.unholdAll_pin]
    exact SlotTable.releasePair_pin _ _ hnodup k (hs.monitorPair_le_pin k)

theorem State.SlotsLaw.monitorBoundary {x : Option SlotId} {s : State} (hs : s.SlotsLaw x) (t : TimelineId)
    (parity : Parity) (house : Option Timecode) : (s.monitorBoundary t parity house).SlotsLaw x := by
  have hnodup : s.monitor.pair.toList.Nodup := by cases s.monitor.pair <;> simp
  unfold State.monitorBoundary State.monitorContent
  split
  · split
    · exact hs.of_tables rfl rfl rfl rfl (.of_feeds rfl)
    · exact hs.of_tables rfl rfl rfl rfl (.of_feeds rfl)
    · unfold State.monitorFeedBoundary
      split
      · next i hshow =>
        have hlatest : s.monitor.latest = some i := (Option.filter_eq_some_iff.1 hshow).1
        have hready : (s.slot i).state = .ready := by
          have hle := hs.latest_le_hold i
          rw [hlatest] at hle
          simp only [Option.toList_some, List.count_singleton_self] at hle
          refine (hs.lawful i).1 ?_
          change 0 < (s.slot i).hold + _
          omega
        refine hs.setMonitor rfl (.of_feeds rfl) ?_ (fun k => ?_) (fun k => ?_)
        · exact SlotTable.replacePair_moves hs.lawful _ _ fun k hk => by rw [List.mem_singleton.1 hk]; exact hready
        · exact congrArg (· + _) (SlotTable.replacePair_hold _ _ _ k)
        · exact SlotTable.replacePair_pin _ _ _ hnodup (List.nodup_singleton i) k (hs.monitorPair_le_pin k)
      · refine hs.setMonitor rfl (.of_feeds rfl) ?_ (fun k => ?_) (fun k => ?_)
        · exact SlotTable.releasePair_moves hs.lawful _
        · exact congrArg (· + _) (SlotTable.releasePair_hold _ _ k)
        · exact SlotTable.releasePair_pin _ _ hnodup k (hs.monitorPair_le_pin k)
  · exact hs

/-! ## Pictures in flight (R41 to R44) -/

theorem State.SlotsLaw.writing_counts {s : State} (hs : s.SlotsLaw none) (f : FeedId) (k : SlotId)
    (h : (s.feed f).writing = some k) : (s.slot k).hold = 0 ∧ (s.slot k).pin = 0 := by
  have hstate := (hs.writing k).2 ⟨f, h⟩
  have hused : ¬0 < (s.slot k).hold + (s.slot k).pin := fun hpos => by
    have hready : (s.slot k).state = .ready := (hs.lawful k).1 hpos
    rw [hready] at hstate
    exact absurd hstate (by decide)
  omega

/-- A feed's writing slot, if it has one, is handed back or completed (R44, R45). -/
theorem State.SlotsLaw.endWriting {x : Option SlotId} {s t : State} (hs : s.SlotsLaw none) (f : FeedId)
    (routes : t.routes = s.routes) (latest : t.monitor.latest = s.monitor.latest)
    (pair : t.monitor.pair = s.monitor.pair) (writing : (t.feed f).writing = none)
    (others : ∀ g, g ≠ f → t.feed g = s.feed g)
    (slots : ∀ k, (s.feed f).writing ≠ some k → t.slot k = s.slot k)
    (written : ∀ k, (s.feed f).writing = some k →
      (t.slot k).hold = 0 ∧ (t.slot k).pin = 0 ∧
        ((t.slot k).state = .free ∨ ((t.slot k).state = .ready ∧ x = some k))) :
    t.SlotsLaw x := by
  have hroute : ∀ j, t.route j = s.route j := State.route_eq_of_routes_eq routes
  have hcounts : ∀ k, (t.slot k).hold = (s.slot k).hold ∧ (t.slot k).pin = (s.slot k).pin := by
    intro k
    by_cases hk : (s.feed f).writing = some k
    · obtain ⟨h1, h2⟩ := hs.writing_counts f k hk
      obtain ⟨h3, h4, -⟩ := written k hk
      exact ⟨h3.trans h1.symm, h4.trans h2.symm⟩
    · rw [slots k hk]
      exact ⟨rfl, rfl⟩
  refine ⟨fun k => ?_, fun k => ?_, fun k => ?_, fun k => ?_, fun g k hg => ?_, fun j => hroute j ▸ hs.once j,
    fun j => hroute j ▸ hs.vacant j, fun j => hroute j ▸ hs.free j⟩
  · rw [(hcounts k).1, hs.hold, State.holders, State.holders, latest]
    simp only [hroute]
  · rw [(hcounts k).2, hs.pin, State.users, State.users, pair]
    simp only [hroute]
  · by_cases hk : (s.feed f).writing = some k
    · obtain ⟨h3, h4, h5⟩ := written k hk
      refine ⟨fun hpos => ?_, fun hready => ?_⟩
      · change 0 < (t.slot k).hold + (t.slot k).pin at hpos
        omega
      · rcases h5 with h | h
        · change (t.slot k).state = .ready at hready
          rw [h] at hready
          exact absurd hready (by decide)
        · exact .inr h.2
    · have hsame : tget t.slots k = tget s.slots k := slots k hk
      rw [hsame]
      exact ⟨(hs.lawful k).1, fun h => .inl (((hs.lawful k).2 h).resolve_right (by simp))⟩
  · by_cases hk : (s.feed f).writing = some k
    · obtain ⟨-, -, h5⟩ := written k hk
      have hstate : (t.slot k).state ≠ .writing := by rcases h5 with h | h <;> simp [h]
      refine iff_of_false hstate ?_
      rintro ⟨g, hg⟩
      by_cases hgf : g = f
      · rw [hgf, writing] at hg
        exact absurd hg (by simp)
      · rw [others g hgf] at hg
        exact hgf (Fin.ext ((hs.own g k hg).1.symm.trans (hs.own f k hk).1))
    · rw [slots k hk, hs.writing k]
      refine exists_congr fun g => ?_
      by_cases hgf : g = f
      · rw [hgf, writing]
        exact iff_of_false hk (by simp)
      · rw [others g hgf]
  · by_cases hgf : g = f
    · rw [hgf, writing] at hg
      exact absurd hg (by simp)
    · rw [others g hgf] at hg ⊢
      exact hs.own g k hg

theorem State.SlotsLaw.abandon {s : State} (hs : s.SlotsLaw none) (f : FeedId) : (s.abandon f).SlotsLaw none := by
  unfold State.abandon
  split
  · refine hs.endWriting f rfl rfl rfl ?_ (fun g hg => ?_) (fun k hk => ?_) (fun k hk => ?_)
    · exact congrArg Feed.writing (State.setFeed_feed_self s f _)
    · exact (State.setFeed_feed s f g _).trans (if_neg (Ne.symm hg))
    · exact (SlotTable.handBack_slot _ _ k).trans (if_neg hk)
    · have hslot : tget (SlotTable.handBack s.slots (s.feed f).writing) k = _ :=
        (SlotTable.handBack_slot _ _ k).trans (if_pos hk)
      simp only [State.slot, hslot, true_and, true_or]
  · exact hs

theorem State.freeSlot_spec (s : State) (f : FeedId) (i : SlotId) (h : s.freeSlot f = some i) :
    i.val / 16 = f.val ∧ (s.slot i).state = .free := by
  obtain ⟨k, -, rfl⟩ := List.mem_map.1 (List.mem_of_find?_eq_some h)
  refine ⟨?_, by simpa using List.find?_some h⟩
  have hk := k.isLt
  change (16 * f.val + k.val) / 16 = f.val
  omega

theorem State.SlotsLaw.store {s : State} (hs : s.SlotsLaw none) (f : FeedId) (st : Standard) (seq : BitVec 32)
    (parity : Parity) (flight : (s.feed f).inFlight = true) (unwritten : (s.feed f).writing = none) :
    (s.store f st seq parity).SlotsLaw none := by
  unfold State.store
  split
  · split
    · next i hfree =>
      obtain ⟨hown, hstate⟩ := s.freeSlot_spec f i hfree
      have hzero : (s.slot i).hold = 0 ∧ (s.slot i).pin = 0 := by
        have hused : ¬0 < (s.slot i).hold + (s.slot i).pin := fun hpos => by
          have hready : (s.slot i).state = .ready := (hs.lawful i).1 hpos
          rw [hready] at hstate
          exact absurd hstate (by decide)
        omega
      generalize ht : ({ s.setFeed f { s.feed f with writing := some i } with
        slots := tset s.slots i (allocatedSlot (s.slot i) seq st parity) } : State) = t
      have hslot : ∀ k, t.slot k = if i = k then allocatedSlot (s.slot i) seq st parity else s.slot k := fun k => by
        rw [← ht]
        exact tget_tset _ _ _ _
      have hfeed : ∀ g, t.feed g = if f = g then { s.feed f with writing := some i } else s.feed g := fun g => by
        rw [← ht]
        exact State.setFeed_feed s f g _
      have hroute : ∀ j, t.route j = s.route j := fun j => by rw [← ht]; rfl
      have hmonitor : t.monitor = s.monitor := by rw [← ht]; rfl
      refine ⟨fun k => ?_, fun k => ?_, fun k => ?_, fun k => ?_, fun g k hg => ?_, fun j => hroute j ▸ hs.once j,
        fun j => hroute j ▸ hs.vacant j, fun j => hroute j ▸ hs.free j⟩
      · have hcount : (t.slot k).hold = (s.slot k).hold := by
          rw [hslot]
          split
          · next h => rw [← h, hzero.1]; rfl
          · rfl
        rw [hcount, hs.hold, State.holders, State.holders, hmonitor]
        simp only [hroute]
      · have hcount : (t.slot k).pin = (s.slot k).pin := by
          rw [hslot]
          split
          · next h => rw [← h, hzero.2]; rfl
          · rfl
        rw [hcount, hs.pin, State.users, State.users, hmonitor]
        simp only [hroute]
      · change (t.slot k).Lawful none k
        rw [hslot]
        split
        · exact ⟨fun h => absurd h (by simp [allocatedSlot]), fun h => by simp [allocatedSlot] at h⟩
        · exact hs.lawful k
      · rw [hslot]
        split
        · next h => exact iff_of_true rfl ⟨f, by rw [hfeed, if_pos rfl, ← h]⟩
        · next h =>
          rw [hs.writing k]
          refine exists_congr fun g => ?_
          rw [hfeed]
          split
          · next hg => rw [← hg, unwritten]; simp [h]
          · rfl
      · rw [hfeed] at hg ⊢
        split at hg
        · next h =>
          obtain rfl := Option.some.inj hg
          rw [if_pos h, ← h]
          exact ⟨hown, flight⟩
        · next h =>
          rw [if_neg h]
          exact hs.own g k hg
    · exact hs.of_tables rfl rfl rfl rfl (.of_tset f rfl rfl rfl)
  · exact hs

end Sys2Proof.Machine

/-! The slot counts through a picture end (R45 to R49) and through every step. -/

namespace Sys2Proof.Machine

/-! ## All records, one after the other -/

/-- A property of the records left to change and of the part: it holds after all records are changed if it holds before,
and if each record's change keeps it for the records left. -/
theorem State.overRoutes_induct_left (P : List RouteId → State → Prop)
    (g : RouteId → Route → SlotTable → Route × SlotTable) (s : State) (hs : P (List.finRange 16) s)
    (one : ∀ (u : State) (i : RouteId) (l : List RouteId), i ∉ l → P (i :: l) u →
      P l { u.setRoute i (g i (u.route i) u.slots).1 with slots := (g i (u.route i) u.slots).2 }) :
    P [] (s.overRoutes g) := by
  unfold State.overRoutes Machine.overRoutes
  have hnodup := List.nodup_finRange 16
  generalize List.finRange 16 = l at hs hnodup ⊢
  induction l generalizing s with
  | nil => exact hs
  | cons i l ih =>
    obtain ⟨hi, hl⟩ := List.nodup_cons.1 hnodup
    exact ih _ (one s i l hi hs) hl

/-! ## Feed loss and recovery (R66, R67) -/

theorem State.SlotsLaw.feedChanged {x : Option SlotId} {s : State} (hs : s.SlotsLaw x) (f : FeedId)
    (old new : FeedState) : (s.feedChanged f old new).SlotsLaw x := by
  have same : ∀ (u : State) (i : RouteId), u.SlotsLaw x →
      ({ u.setRoute i (u.route i) with slots := u.slots } : State).SlotsLaw x := fun u i hu => by
    rw [State.setRoute_self_with_slots]
    exact hu
  have drop : ∀ (u : State) (i : RouteId) (r : Route), u.SlotsLaw x → r.window = [] → r.pair = (u.route i).pair →
      r.state ≠ .free → ({ u.setRoute i r with slots := Machine.dropWindow (u.route i) u.slots } : State).SlotsLaw x :=
    fun u i r hu hw hp hf => hu.dropWindow i rfl rfl rfl rfl (.of_feeds rfl) hw hp fun h => absurd h hf
  unfold State.feedChanged
  split
  · exact hs
  · split
    · refine State.overRoutes_induct (State.SlotsLaw x) _ s hs fun u i hu => ?_
      unfold Route.feedLost
      split
      · exact drop u i _ hu rfl rfl (by simp [Route.starve, Route.raise])
      · exact same u i hu
    · split
      · refine State.overRoutes_induct (State.SlotsLaw x) _ s hs fun u i hu => ?_
        unfold Route.feedBack
        split
        · exact drop u i _ hu rfl rfl (by simp [Route.recover])
        · split
          · next h => exact drop u i _ hu rfl rfl (by simp [Route.flush, h.2])
          · exact same u i hu
      · exact hs

/-! ## The offer (R46, R78, R144) -/

theorem SlotTable.hold_moves {x : Option SlotId} {t : SlotTable} (ht : SlotTable.Lawful x t) (i : SlotId)
    (hready : (tget t i).state = .ready) : SlotTable.Moves x t (SlotTable.hold t i) := by
  intro k
  rw [SlotTable.hold_slot]
  split
  · next h => exact Slot.moves_raise (ht k) (h ▸ hready) 1 0
  · exact .refl (ht k)

theorem SlotTable.hold_count (t : SlotTable) (i k : SlotId) :
    (tget (SlotTable.hold t i) k).hold = (tget t k).hold + [i].count k ∧
      (tget (SlotTable.hold t i) k).pin = (tget t k).pin := by
  rw [SlotTable.hold_slot]
  by_cases h : i = k
  · simp [h]
  · simp [h]

theorem State.SlotsLaw.offerMonitor {x : Option SlotId} {s : State} (hs : s.SlotsLaw x) (f : FeedId) (i : SlotId)
    (hready : (s.slot i).state = .ready) : (s.offerMonitor f i).SlotsLaw x := by
  have hmoves := SlotTable.hold_moves hs.lawful i hready
  unfold State.offerMonitor
  split
  · split
    · cases hlatest : s.monitor.latest with
      | none =>
        refine hs.setMonitor rfl (.of_feeds rfl) hmoves (fun k => ?_) (fun k => ?_)
        · rw [hlatest]
          exact (SlotTable.hold_count s.slots i k).1
        · exact congrArg (· + _) (SlotTable.hold_count s.slots i k).2
      | some o =>
        refine hs.setMonitor rfl (.of_feeds rfl) ?_ (fun k => ?_) (fun k => ?_)
        · exact hmoves.trans (SlotTable.unholdAll_moves hmoves.lawful [o])
        · have hle := hs.latest_le_hold k
          have hcount := (SlotTable.hold_count s.slots i k).1
          rw [hlatest, Option.toList_some] at hle ⊢
          change (tget (SlotTable.unholdAll (SlotTable.hold s.slots i) [o]) k).hold + _ = _
          rw [SlotTable.unholdAll_hold, hcount]
          change (s.slot k).hold + _ - _ + _ = _
          simp only [Option.toList_some]
          omega
        · change (tget (SlotTable.unholdAll (SlotTable.hold s.slots i) [o]) k).pin + _ = _
          rw [SlotTable.unholdAll_pin, (SlotTable.hold_count s.slots i k).2]
          rfl
    · exact hs
  · exact hs
  · exact hs

/-- An admission (R78): the window takes the slot, a full one losing its oldest entry. -/
theorem Route.admit_heldSlots (r : Route) (i : SlotId) (seq : BitVec 32) (k : SlotId) :
    (r.admitEntry i seq).enterRunning.heldSlots.count k + (shiftedOut r.window).count k =
        r.heldSlots.count k + [i].count k ∧
      (r.heldSlots.Nodup → i ∉ r.heldSlots → (r.admitEntry i seq).enterRunning.heldSlots.Nodup) := by
  have hwindow : (r.admitEntry i seq).enterRunning.window =
      appendWindow r.window { slot := i, seq := seq, admitNumber := r.nextAdmit } := by
    unfold Route.enterRunning
    split <;> rfl
  simp only [Route.heldSlots, hwindow, appendWindow, shiftedOut]
  split
  · simp only [List.map_append, List.map_cons, List.map_nil, List.count_append, List.count_nil, Nat.add_zero, true_and]
    exact fun hn hi => List.nodup_append.2 ⟨hn, List.nodup_singleton i, fun a ha b hb => by
      rw [List.mem_singleton.1 hb]
      exact fun hab => hi (hab ▸ ha)⟩
  · have hsplit : (r.window.map WindowEntry.slot) =
        (r.window.take 1).map WindowEntry.slot ++ (r.window.drop 1).map WindowEntry.slot := by
      rw [← List.map_append, List.take_append_drop]
    simp only [List.map_append, List.map_cons, List.map_nil, List.count_append]
    refine ⟨?_, fun hn hi => ?_⟩
    · rw [hsplit, List.count_append]
      omega
    · rw [hsplit] at hn hi
      refine List.nodup_append.2 ⟨(List.nodup_append.1 hn).2.1, List.nodup_singleton i, fun a ha b hb => ?_⟩
      rw [List.mem_singleton.1 hb]
      exact fun hab => hi (hab ▸ List.mem_append_right _ ha)

/-- The state of an offer under way: the slot offered is READY, and no record left to act holds it. -/
structure State.Offering (x : Option SlotId) (left : List RouteId) (s : State) : Prop where
  law   : s.SlotsLaw x
  ready : ∀ i, x = some i → (s.slot i).state = .ready
  fresh : ∀ i, x = some i → ∀ j ∈ left, i ∉ (s.route j).heldSlots

theorem Route.admit_state (r : Route) (i : SlotId) (seq : BitVec 32) (h : r.state.taking = true) :
    (r.admitEntry i seq).enterRunning.state.taking = true ∧ (r.admitEntry i seq).enterRunning.pair = r.pair := by
  unfold Route.enterRunning
  split
  · exact ⟨rfl, rfl⟩
  · exact ⟨h, rfl⟩

theorem RouteState.not_free_of_taking {st : RouteState} (h : st.taking = true) : st.live ≠ false ∧ st ≠ .free := by
  revert h
  cases st <;> decide

theorem State.Offering.turn {x : Option SlotId} {s : State} {i : RouteId} {l : List RouteId} (hi : i ∉ l)
    (hs : s.Offering x (i :: l)) (f : FeedId) (st : Standard) (seq : BitVec 32) (matched : Bool) :
    ({ s.setRoute i (Route.pictureEnd f st seq matched x i (s.route i) s.slots).1 with
        slots := (Route.pictureEnd f st seq matched x i (s.route i) s.slots).2 } : State).Offering x l := by
  have hother : ∀ (r : Route) (j : RouteId), j ∈ l → (s.setRoute i r).route j = s.route j := fun r j hj => by
    rw [State.setRoute_route, if_neg (fun h : i = j => hi (h ▸ hj))]
  have hfresh : ∀ k, x = some k → ∀ j ∈ l, k ∉ (s.route j).heldSlots := fun k hk j hj =>
    hs.fresh k hk j (List.mem_cons_of_mem _ hj)
  have keep : ∀ r : Route, r.window = (s.route i).window → r.pair = (s.route i).pair → r.state = (s.route i).state →
      ({ s.setRoute i r with slots := s.slots } : State).Offering x l := by
    intro r hw hp hst
    refine ⟨hs.law.of_record i rfl rfl rfl rfl (.of_feeds rfl) hw hp (hst ▸ id) (hst ▸ id), hs.ready, ?_⟩
    intro k hk j hj
    exact (congrArg (fun r : Route => k ∉ r.heldSlots) (hother r j hj)).mpr (hfresh k hk j hj)
  unfold Route.pictureEnd
  split
  · next htaking =>
    have hwindow : ((s.route i).cadenceStep st matched).1.window = (s.route i).window := by
      rw [Route.cadenceStep_frame]
    have hpair : ((s.route i).cadenceStep st matched).1.pair = (s.route i).pair := by rw [Route.cadenceStep_frame]
    have hstate : ((s.route i).cadenceStep st matched).1.state = (s.route i).state := by rw [Route.cadenceStep_frame]
    generalize (s.route i).cadenceStep st matched = res at hwindow hpair hstate ⊢
    obtain ⟨q, want⟩ := res
    have hheld : q.heldSlots = (s.route i).heldSlots := by rw [Route.heldSlots, hwindow]; rfl
    dsimp only at hwindow hpair hstate ⊢
    split
    · next k =>
      have hready := hs.ready k rfl
      obtain ⟨hnext, hpair'⟩ := q.admit_state k seq (hstate ▸ htaking.2)
      have hk : k ∉ q.heldSlots := hheld ▸ hs.fresh k rfl i (List.mem_cons_self)
      have hnodup := (q.admit_heldSlots k seq k).2 (hheld ▸ (hs.law.once i).1) hk
      have hmoves := SlotTable.hold_moves hs.law.lawful k hready
      unfold Route.admitPicture
      have hlaw : ({ s.setRoute i (q.admitEntry k seq).enterRunning with
          slots := (SlotTable.hold s.slots k).unholdAll (shiftedOut q.window) } : State).SlotsLaw (some k) := by
        refine hs.law.setRecord i rfl rfl rfl (.of_feeds rfl) ⟨⟨hnodup, ?_⟩, ?_, ?_⟩ ?_ (fun n => ?_) (fun n => ?_)
        · rw [hpair', hpair]
          exact (hs.law.once i).2
        · exact fun h => absurd h (RouteState.not_free_of_taking hnext).1
        · exact fun h => absurd h (RouteState.not_free_of_taking hnext).2
        · exact hmoves.trans (SlotTable.unholdAll_moves hmoves.lawful _)
        · have hle := hs.law.window_le_hold i n
          have hcount := (SlotTable.hold_count s.slots k n).1
          have hsum := (q.admit_heldSlots k seq n).1
          change (tget (SlotTable.unholdAll (SlotTable.hold s.slots k) _) n).hold + _ = _
          rw [SlotTable.unholdAll_hold, hcount]
          change (s.slot n).hold + _ - _ + _ = _
          rw [hheld] at hsum
          have hshift : (shiftedOut q.window).count n ≤ (s.route i).heldSlots.count n := by
            rw [hwindow, Route.heldSlots]
            unfold shiftedOut
            split
            · simp
            · exact List.Sublist.count_le n ((List.take_sublist 1 _).map _)
          omega
        · change (tget (SlotTable.unholdAll (SlotTable.hold s.slots k) _) n).pin + _ = _
          rw [SlotTable.unholdAll_pin, (SlotTable.hold_count s.slots k n).2, hpair', hpair]
          rfl
      refine ⟨hlaw, ?_, ?_⟩
      · intro n hn
        obtain rfl := Option.some.inj hn
        refine hlaw.ready_of_window i k ?_
        have hself : (s.setRoute i (q.admitEntry k seq).enterRunning).route i =
            (q.admitEntry k seq).enterRunning := State.setRoute_route_self s i _
        refine (congrArg (fun r : Route => k ∈ r.heldSlots) hself).mpr (List.count_pos_iff.1 ?_)
        have hsum := (q.admit_heldSlots k seq k).1
        have hzero : (shiftedOut q.window).count k = 0 := by
          refine List.count_eq_zero.2 fun hmem => hk ?_
          unfold shiftedOut at hmem
          split at hmem
          · simp at hmem
          · exact ((List.take_sublist 1 _).map _).subset hmem
        simp only [List.count_singleton_self] at hsum
        omega
      · intro n hn j hj
        exact (congrArg (fun r : Route => n ∉ r.heldSlots) (hother _ j hj)).mpr (hfresh n hn j hj)
    · exact keep _ hwindow hpair hstate
  · exact keep _ rfl rfl rfl

theorem State.SlotsLaw.closePicture {s : State} (hs : s.SlotsLaw none) (f : FeedId) (st : Standard) (v : Verdict) :
    (s.closePicture f st v).SlotsLaw (offeredSlot (s.feed f).writing v) := by
  refine hs.endWriting f rfl rfl rfl ?_ (fun g hg => ?_) (fun k hk => ?_) (fun k hk => ?_)
  · exact congrArg Feed.writing (State.setFeed_feed_self s f _)
  · exact (State.setFeed_feed s f g _).trans (if_neg (Ne.symm hg))
  · change tget (SlotTable.endWriting s.slots (s.feed f).writing v st (s.feedPort f)) k = _
    unfold SlotTable.endWriting
    split
    · next i hi =>
      have hik : i ≠ k := fun h => hk (h ▸ hi)
      split
      · exact tget_tset_ne _ _ _ _ hik
      · exact (SlotTable.release_slot _ _ _).trans (if_neg hik)
    · rfl
  · obtain ⟨hhold, hpin⟩ := hs.writing_counts f k hk
    have hslot : (s.closePicture f st v).slot k =
        tget (SlotTable.endWriting s.slots (s.feed f).writing v st (s.feedPort f)) k := rfl
    rw [hslot, hk, SlotTable.endWriting, offeredSlot]
    split
    · rw [tget_tset_self]
      exact ⟨hhold, hpin, .inr ⟨rfl, rfl⟩⟩
    · rw [SlotTable.release_slot, if_pos rfl]
      exact ⟨rfl, rfl, .inl rfl⟩

/-- A good picture of a stored feed is offered READY, held by nothing (R45, R46). -/
theorem State.SlotsLaw.closePicture_offered {s : State} (hs : s.SlotsLaw none) (f : FeedId) (st : Standard)
    (v : Verdict) (i : SlotId) (h : offeredSlot (s.feed f).writing v = some i) :
    ((s.closePicture f st v).slot i).state = .ready ∧ ∀ j, i ∉ (s.route j).heldSlots := by
  unfold offeredSlot at h
  split at h
  · next hv =>
    refine ⟨?_, fun j hmem => ?_⟩
    · have hslot : (s.closePicture f st v).slot i =
          tget (SlotTable.endWriting s.slots (s.feed f).writing v st (s.feedPort f)) i := rfl
      rw [hslot, h, SlotTable.endWriting, if_pos hv, tget_tset_self]
      rfl
    · have hle := hs.window_le_hold j i
      rw [(hs.writing_counts f i h).1] at hle
      exact absurd (List.count_pos_iff.2 hmem) (by omega)
  · simp at h

theorem State.SlotsLaw.offering {s : State} (hs : s.SlotsLaw none) (f : FeedId) (st : Standard) (v : Verdict) :
    ((s.closePicture f st v).offerMonitorAny f (offeredSlot (s.feed f).writing v)).Offering
      (offeredSlot (s.feed f).writing v) (List.finRange 16) := by
  have hclose := hs.closePicture f st v
  have hoffered := hs.closePicture_offered f st v
  generalize offeredSlot (s.feed f).writing v = x at hclose hoffered ⊢
  cases x with
  | none => exact ⟨hclose, by simp, by simp⟩
  | some i =>
    obtain ⟨hready, hfresh⟩ := hoffered i rfl
    have hlaw : ((s.closePicture f st v).offerMonitorAny f (some i)).SlotsLaw (some i) :=
      hclose.offerMonitor f i hready
    refine ⟨hlaw, fun k hk => ?_, fun k hk j _ => ?_⟩
    · obtain rfl := Option.some.inj hk
      by_cases hlatest : ((s.closePicture f st v).offerMonitorAny f (some i)).monitor.latest = some i
      · have hle := hlaw.latest_le_hold i
        rw [hlatest, Option.toList_some, List.count_singleton_self] at hle
        refine (hlaw.lawful i).1 ?_
        change 0 < (State.slot _ i).hold + _
        omega
      · have hsame : (s.closePicture f st v).offerMonitorAny f (some i) = s.closePicture f st v := by
          unfold State.offerMonitorAny State.offerMonitor at hlatest ⊢
          cases hview : (s.closePicture f st v).monitor.view with
          | off => rfl
          | port p => rfl
          | feed g u =>
            by_cases hgf : g = f
            · simp [hview, hgf] at hlatest
            · simp [hgf]
        rw [hsame]
        exact hready
    · obtain rfl := Option.some.inj hk
      have hroute : ((s.closePicture f st v).offerMonitorAny f (some i)).route j = s.route j := by
        rw [State.offerMonitorAny_only]
        rfl
      rw [hroute]
      exact hfresh j

theorem State.SlotsLaw.judgeFeed {x : Option SlotId} {s : State} (hs : s.SlotsLaw x) (f : FeedId) (st : Standard)
    (v : Verdict) (m : Option Tick) : (s.judgeFeed f st v m).SlotsLaw x := by
  rw [State.judgeFeed_eq]
  refine State.SlotsLaw.feedChanged ?_ f _ _
  have hfilter : ∀ k, ((s.feed f).filter k v m).writing = (s.feed f).writing ∧
      ((s.feed f).filter k v m).inFlight = (s.feed f).inFlight := by
    intro k
    unfold Feed.filter
    split
    · split <;> exact ⟨rfl, rfl⟩
    · exact ⟨rfl, rfl⟩
  refine hs.of_tables rfl rfl rfl rfl (.of_tset f rfl ?_ ?_) <;> rw [State.newFeed, Feed.applyVerdict_only]
  · exact (hfilter _).1
  · exact (hfilter _).2

/-- A slot offered and taken by nothing is freed (R49). -/
theorem State.SlotsLaw.settleAny {x : Option SlotId} {s : State} (hs : s.SlotsLaw x) :
    ({ s with slots := SlotTable.settleAny s.slots x } : State).SlotsLaw none := by
  cases x with
  | none => exact hs
  | some i =>
    generalize ht : ({ s with slots := SlotTable.settleAny s.slots (some i) } : State) = t
    have hslot : ∀ k, t.slot k = if i = k then (s.slot i).settle else s.slot k := fun k => by
      rw [← ht]
      exact tget_tset _ _ _ _
    have hcounts : ∀ k, (t.slot k).hold = (s.slot k).hold ∧ (t.slot k).pin = (s.slot k).pin := by
      intro k
      rw [hslot]
      split
      · next h => rw [← h]; exact ⟨Slot.settle_hold _, Slot.settle_pin _⟩
      · exact ⟨rfl, rfl⟩
    have hroute : ∀ j, t.route j = s.route j := fun j => by rw [← ht]; rfl
    have hmonitor : t.monitor = s.monitor := by rw [← ht]
    have hmoves : SlotTable.Moves (some i) s.slots t.slots := by
      intro k
      change (s.slot k).Moves _ k (t.slot k)
      rw [hslot]
      split
      · next h => exact h ▸ Slot.moves_lower (hs.lawful i) 0 0
      · exact .refl (hs.lawful k)
    refine ⟨fun k => ?_, fun k => ?_, fun k => ⟨(hmoves.lawful k).1, fun hready => .inl ?_⟩,
      hs.writing_of_moves (.of_feeds (by rw [← ht])) hmoves, hs.own_of_flights (.of_feeds (by rw [← ht])),
      fun j => hroute j ▸ hs.once j, fun j => hroute j ▸ hs.vacant j, fun j => hroute j ▸ hs.free j⟩
    · rw [(hcounts k).1, hs.hold, State.holders, State.holders, hmonitor]
      simp only [hroute]
    · rw [(hcounts k).2, hs.pin, State.users, State.users, hmonitor]
      simp only [hroute]
    · rcases (hmoves.lawful k).2 hready with h | h
      · exact h
      · obtain rfl := Option.some.inj h
        change (t.slot i).state = .ready at hready
        change 0 < (t.slot i).hold + (t.slot i).pin
        rw [hslot, if_pos rfl, Slot.settle_state] at hready
        rw [(hcounts i).1, (hcounts i).2]
        split at hready
        · exact absurd hready (by decide)
        · next hnot =>
          by_contra hzero
          exact hnot ⟨hready, by omega, by omega⟩

theorem State.SlotsLaw.endFlight {s : State} (hs : s.SlotsLaw none) (f : FeedId) (st : Standard) :
    (s.endFlight f st).SlotsLaw none := by
  have hoffer : (s.offered f st).Offering (offeredSlot (s.feed f).writing (s.verdict f st)) [] :=
    State.overRoutes_induct_left _ _ _ (hs.offering f st (s.verdict f st))
      fun u i l hi hu => hu.turn hi f st _ (s.matched f st)
  rw [State.endFlight_eq]
  exact (hoffer.law.judgeFeed f st (s.verdict f st) (s.feed f).measurement).settleAny

/-! ## Every action -/

/-- A part whose slots are all FREE, whose records are all FREE and whose feeds and monitor hold nothing. -/
theorem State.SlotsLaw.of_reset {t : State} (slots : t.slots = Vector.replicate 128 Slot.reset)
    (feeds : t.feeds = Vector.replicate 8 Feed.reset) (latest : t.monitor.latest = none)
    (pair : t.monitor.pair = none) (hroute : ∀ i, ∃ g, t.route i = Route.free g) : t.SlotsLaw none := by
  have hslot : ∀ k, t.slot k = Slot.reset := fun k => by simp only [State.slot, slots, tget_replicate]
  have hfeed : ∀ f, t.feed f = Feed.reset := fun f => by simp only [State.feed, feeds, tget_replicate]
  have hwindow : ∀ i, (t.route i).window = [] ∧ (t.route i).pair = none := fun i => by
    obtain ⟨g, hg⟩ := hroute i
    rw [hg]
    exact ⟨rfl, rfl⟩
  have hheld : ∀ i, (t.route i).heldSlots = [] := fun i => by rw [Route.heldSlots, (hwindow i).1]; rfl
  have hpairs : ∀ i, pairList (t.route i).pair = [] := fun i => by rw [(hwindow i).2]; rfl
  refine ⟨fun k => ?_, fun k => ?_, fun k => ?_, fun k => ?_, fun f k hk => ?_, fun i => ?_, fun i _ => (hwindow i).1,
    fun i _ => (hwindow i).2⟩
  · simp [hslot, Slot.reset, State.holders, hheld, latest]
  · simp [hslot, Slot.reset, State.users, hpairs, pair]
  · change (t.slot k).Lawful none k
    rw [hslot]
    exact ⟨fun h => absurd h (by simp [Slot.reset]), fun h => absurd h (by simp [Slot.reset])⟩
  · rw [hslot]
    simp [hfeed, Slot.reset, Feed.reset]
  · rw [hfeed] at hk
    exact absurd hk (by simp [Feed.reset])
  · rw [hheld, hpairs]
    exact ⟨List.nodup_nil, List.nodup_nil⟩

theorem Route.hold_kept (r : Route) :
    r.hold.window = r.window ∧ r.hold.pair = r.pair ∧ (r.hold.state.live = false → r.state.live = false) ∧
      (r.hold.state = .free → r.state = .free) := by
  unfold Route.hold
  split <;> simp [RouteState.live]

theorem State.SlotsLaw.applyFeedSet {s : State} (hs : s.SlotsLaw none) (q : FeedRequest) :
    (s.applyFeedSet q).SlotsLaw none := by
  have hpin : ∀ f : Feed, f.pinNominal.writing = f.writing ∧ f.pinNominal.inFlight = f.inFlight := fun f => by
    unfold Feed.pinNominal
    split <;> exact ⟨rfl, rfl⟩
  unfold State.applyFeedSet
  dsimp only
  split
  · exact hs.of_tables rfl rfl rfl rfl (.of_tset q.feedId rfl (hpin _).1 (hpin _).2)
  · refine (hs.abandon q.feedId).of_tables rfl rfl rfl rfl (.of_tset q.feedId rfl ?_ ?_) <;>
      rw [Feed.restart, Feed.raiseChange_frame] <;> rfl

theorem Act.keeps_slots {s t : State} (h : Act s t) (hs : s.SlotsLaw none) : t.SlotsLaw none := by
  have feeds : ∀ {u : State}, u.feeds = s.feeds → s.SameFlights u := State.SameFlights.of_feeds
  have unchanged : ∀ {u : State}, u.routes = s.routes → u.slots = s.slots → u.monitor = s.monitor →
      u.feeds = s.feeds → u.SlotsLaw none := fun h1 h2 h3 h4 => hs.of_tables h1 h2 (by rw [h3]) (by rw [h3]) (feeds h4)
  have only : ∀ {u v : State}, u = v → v.routes = s.routes → v.slots = s.slots → v.monitor = s.monitor →
      v.feeds = s.feeds → u.SlotsLaw none := fun h h1 h2 h3 h4 =>
    unchanged (by rw [h, h1]) (by rw [h, h2]) (by rw [h, h3]) (by rw [h, h4])
  have record : ∀ {u : State} (i : RouteId) {r : Route}, u.routes = tset s.routes i r → u.slots = s.slots →
      u.monitor = s.monitor → u.feeds = s.feeds → r.window = (s.route i).window → r.pair = (s.route i).pair →
      (r.state.live = false → (s.route i).state.live = false) → (r.state = .free → (s.route i).state = .free) →
      u.SlotsLaw none := fun i _ h1 h2 h3 h4 => hs.of_record i h1 h2 (by rw [h3]) (by rw [h3]) (feeds h4)
  have drop : ∀ (i : RouteId) (r : Route), r.window = [] → r.pair = (s.route i).pair →
      (r.state = .free → r.pair = none) → (s.flushInto i r).SlotsLaw none :=
    fun i r => hs.dropWindow i rfl rfl rfl rfl (feeds rfl)
  cases h with
  | outside _ h => exact only h rfl rfl rfl rfl
  | powerOn => exact .of_reset rfl rfl rfl rfl fun i => ⟨0, by simp [State.route, State.powerOn, State.reset]⟩
  | controlReset => exact .of_reset rfl rfl rfl rfl fun i => ⟨_, tget_map _ _ i⟩
  | openRoute i q given status hrecord =>
    have hfree := s.freeRecord_free i hrecord
    refine hs.of_record i rfl rfl rfl rfl (.of_tset q.feedId rfl rfl rfl)
      (hs.vacant i (by simp [hfree, RouteState.live])).symm
      (hs.free i hfree).symm ?_ ?_
    · simp [openedRoute, RouteState.live]
    · simp [openedRoute]
  | alter i | trim i | held i | lapse i => exact record i rfl rfl rfl rfl rfl rfl id id
  | mark i r h => exact record i rfl rfl rfl rfl (by rw [h]) (by rw [h]) (by rw [h]; exact id) (by rw [h]; exact id)
  | hold i =>
    obtain ⟨h1, h2, h3, h4⟩ := (s.route i).hold_kept
    exact record i rfl rfl rfl rfl h1 h2 h3 h4
  | resume i =>
    refine record i rfl rfl rfl rfl rfl rfl ?_ ?_ <;> dsimp only <;> split <;> simp [RouteState.live]
  | close i =>
    refine (drop i ((s.route i).endLife (s.route i).closeState) rfl rfl ?_).of_tables rfl rfl rfl rfl
      (.of_tset (s.route i).feed rfl rfl rfl)
    dsimp only [Route.endLife, Route.closeState]
    cases (s.route i).pair <;> simp
  | starve i => exact drop i _ rfl rfl (by simp [Route.starve, Route.raise])
  | recover i => exact drop i _ rfl rfl (by simp [Route.recover])
  | flush i held => exact drop i _ rfl rfl (by simp [Route.flush, held])
  | feedMark f a h => exact hs.of_tables rfl rfl rfl rfl (.of_tset f rfl (by rw [h]) (by rw [h]))
  | feedSet q => exact hs.applyFeedSet q
  | cut t =>
    refine hs.congr rfl ?_ ?_ (feeds rfl) fun j => ?_
    · dsimp only [State.cutTimeline]
      split <;> rfl
    · dsimp only [State.cutTimeline]
      split <;> rfl
    · simp only [State.cutTimeline, State.route, tget_map]
      split <;> exact ⟨rfl, rfl, id, id⟩
  | setView view => exact hs.setView view
  | running i parity running => exact hs.running i parity running
  | enterLapsed i starved =>
    exact hs.releasePair i rfl rfl rfl rfl (feeds rfl) rfl rfl
      (by simp [Route.enterLapsed, Route.raise, RouteState.live])
  | retire i resting => exact hs.retire i (by rcases resting with h | h <;> simp [h, RouteState.live])
  | closing i closing =>
    exact hs.releasePair i rfl rfl rfl rfl (feeds rfl) rfl rfl
      fun _ => hs.vacant i (by simp [closing, RouteState.live])
  | portBoundary p parity house =>
    have hmonitor : (s.portBoundary p parity house).monitor = s.monitor := by rw [State.portBoundary_only]
    refine hs.congr (by rw [State.portBoundary_only]) (by rw [hmonitor]) (by rw [hmonitor])
      (feeds (by rw [State.portBoundary_only])) fun j => ?_
    rw [State.portBoundary_route]
    exact ⟨rfl, rfl, id, id⟩
  | monitorBoundary t parity house => exact hs.monitorBoundary t parity house
  | line o =>
    refine hs.congr (by rw [State.outputLine_only]) (by rw [State.outputLine_monitor])
      (by rw [State.outputLine_monitor]) (feeds (by rw [State.outputLine_only])) fun j => ?_
    rw [State.outputLine_route]
    exact ⟨rfl, rfl, id, id⟩
  | abandon f => exact hs.abandon f
  | verdictBad f st =>
    exact hs.of_tables rfl rfl rfl rfl
      (.of_tset f rfl (by rw [Feed.applyVerdict_only]) (by rw [Feed.applyVerdict_only]))
  | begin f st tick m parity standard rest =>
    have hnone : (s.feed f).writing = none := by
      cases hw : (s.feed f).writing with
      | none => rfl
      | some i => exact absurd (hs.own f i hw).2 (by simp [rest])
    refine hs.endWriting f rfl rfl rfl ?_ (fun g hg => ?_) (fun k _ => rfl) (fun k hk => by simp [hnone] at hk)
    · exact congrArg Feed.writing (State.setFeed_feed_self s f _)
    · exact (State.setFeed_feed s f g _).trans (if_neg (Ne.symm hg))
  | store f st seq parity flight unwritten => exact hs.store f st seq parity flight unwritten
  | endFlight f st => exact hs.endFlight f st
  | goLost f => exact hs.of_tables rfl rfl rfl rfl (.of_tset f rfl rfl rfl)
  | start | advance =>
    exact unchanged (State.setTimeline_routes _ _ _) (State.setTimeline_slots _ _ _) (State.setTimeline_monitor _ _ _)
      (State.setTimeline_feeds _ _ _)
  | activeLine => exact only (State.activeLine_only ..) rfl rfl rfl rfl
  | packet => exact only (State.packet_only ..) rfl rfl rfl rfl
  | timecodeIn => exact only (State.timecodeIn_only ..) rfl rfl rfl rfl
  | presets => exact only (State.applyPresets_only ..) rfl rfl rfl rfl
  | house => exact only (State.applyHouse_only ..) rfl rfl rfl rfl
  | _ => exact unchanged rfl rfl rfl rfl

/-- Settles O60: a step is elementary actions (`step_acts`), and each of them keeps the counts (`Act.keeps_slots`). -/
theorem stepKeepsSlotCounts : Obligations.StepKeepsSlotCounts := by
  intro s t hs h
  exact (State.slotsLaw_none t).1
    (step_keeps (fun _ _ => Act.keeps_slots) s t ((State.slotsLaw_none s).2 hs) h)

end Sys2Proof.Machine

/-! Functions of the feed unit on their own: the verdicts (R29 to R31), the comparator (R21) and the cadence detector
(R92 to R98). -/

namespace Sys2Proof.Machine

/-! ## The feed state machine (R29, R30, R31) -/

theorem Feed.applyVerdict_acquire (f : Feed) (st : Standard) (v : Verdict) (h : f.state = .acquire) :
    f.applyVerdict st v = (f.acquireVerdict v).raiseChange .acquire := by
  simp only [Feed.applyVerdict, h]

theorem Feed.applyVerdict_locked (f : Feed) (st : Standard) (v : Verdict) (h : f.state = .locked) :
    f.applyVerdict st v = (f.lockedVerdict v).raiseChange .locked := by
  simp only [Feed.applyVerdict, h]

theorem Feed.applyVerdict_mismatch (f : Feed) (st : Standard) (v : Verdict) (h : f.state = .mismatch) :
    f.applyVerdict st v = (f.mismatchVerdict st v).raiseChange .mismatch := by
  simp only [Feed.applyVerdict, h]

theorem Feed.raiseChange_same (f : Feed) (old : FeedState) (h : f.state = old) : f.raiseChange old = f := if_pos h

theorem Feed.applyVerdict_neutral (f : Feed) (st : Standard) : f.applyVerdict st .neutral = f := by
  unfold Feed.applyVerdict
  cases hs : f.state <;> exact Feed.raiseChange_same _ _ hs

theorem Feed.raiseChange_moved (f : Feed) (old : FeedState) (h : f.state ≠ old) : f.raiseChange old = f.raise .state :=
  if_neg h

/-- Settles O40: one equation per state and verdict; STATE is raised where the state is another one. -/
theorem verdictsDriveTheFeedState : Obligations.VerdictsDriveTheFeedState := by
  intro f st
  refine ⟨f.applyVerdict_neutral st, fun hs hrun => ?_, fun hs hrun => ?_, fun hs hrun => ?_, fun hs hrun => ?_,
    fun hs => ?_, fun hs hrun => ?_, fun hs hrun => ?_, fun hs => ?_, fun hs => ?_⟩
  · rw [f.applyVerdict_acquire st _ hs, Feed.acquireVerdict, if_neg (by omega)]
    exact Feed.raiseChange_same _ _ hs
  · rw [f.applyVerdict_acquire st _ hs, Feed.acquireVerdict, if_pos (by omega)]
    exact Feed.raiseChange_moved _ _ (by simp)
  · rw [f.applyVerdict_acquire st _ hs, Feed.acquireVerdict, if_neg (by omega)]
    exact Feed.raiseChange_same _ _ hs
  · rw [f.applyVerdict_acquire st _ hs, Feed.acquireVerdict, if_pos (by omega)]
    exact Feed.raiseChange_moved _ _ (by simp)
  · rw [f.applyVerdict_locked st _ hs, Feed.lockedVerdict]
    exact Feed.raiseChange_same _ _ hs
  · rw [f.applyVerdict_locked st _ hs, Feed.lockedVerdict, if_neg (by omega)]
    exact Feed.raiseChange_same _ _ hs
  · rw [f.applyVerdict_locked st _ hs, Feed.lockedVerdict, if_pos (by omega)]
    exact Feed.raiseChange_moved _ _ (by simp)
  · rw [f.applyVerdict_mismatch st _ hs, Feed.mismatchVerdict]
    exact Feed.raiseChange_moved _ _ (by simp)
  · rw [f.applyVerdict_mismatch st _ hs, Feed.mismatchVerdict]
    exact Feed.raiseChange_same _ _ hs

/-! ## The comparator (R21) -/

/-- Two grids are compared row by row. -/
theorem List.zipWith_flatten {α β γ : Type} (f : α → β → γ) (a : List (List α)) (b : List (List β)) (n : Nat)
    (ha : ∀ r ∈ a, r.length = n) (hb : ∀ r ∈ b, r.length = n) (hab : a.length = b.length) :
    List.zipWith f a.flatten b.flatten = (List.zipWith (List.zipWith f) a b).flatten := by
  induction a generalizing b with
  | nil => simp
  | cons r a ih =>
    cases b with
    | nil => simp at hab
    | cons q b =>
      simp only [List.mem_cons, forall_eq_or_imp, List.length_cons, Nat.add_right_cancel_iff] at ha hb hab
      rw [List.flatten_cons, List.flatten_cons, List.zipWith_append (by rw [ha.1, hb.1]), List.zipWith_cons_cons,
        List.flatten_cons, ih b ha.2 hb.2 hab]

/-- Two lists of one length are compared place by place. -/
theorem List.zipWith_eq_map_range {α β γ : Type} (f : α → β → γ) (a : List α) (b : List β) (x : α) (y : β) (n : Nat)
    (ha : a.length = n) (hb : b.length = n) :
    List.zipWith f a b = (List.range n).map (fun i => f (a.getD i x) (b.getD i y)) := by
  refine List.ext_getElem (by simp [ha, hb]) fun i h1 h2 => ?_
  simp only [List.length_map, List.length_range] at h2
  simp [List.getD_eq_getElem?_getD, ha, hb, h2]

theorem sampleDistance_eq (a b : Sample) : sampleDistance a b = (a.toNat - b.toNat) + (b.toNat - a.toNat) := by
  unfold sampleDistance
  omega

theorem gridDistance_eq (a b : Grid) (ha : a.length = 32) (hra : ∀ r ∈ a, r.length = 32) (hb : b.length = 32)
    (hrb : ∀ r ∈ b, r.length = 32) :
    gridDistance a b =
      ((List.range 32).map (fun i => ((List.range 32).map (fun j =>
        (((a.getD i []).getD j 0).toNat - ((b.getD i []).getD j 0).toNat) +
          (((b.getD i []).getD j 0).toNat - ((a.getD i []).getD j 0).toNat))).sum)).sum := by
  rw [gridDistance, List.zipWith_flatten sampleDistance a b 32 hra hrb (ha.trans hb.symm), List.sum_flatten,
    List.zipWith_eq_map_range _ a b [] [] 32 ha hb, List.map_map]
  refine congrArg List.sum (List.map_congr_left fun i hi => ?_)
  have hlt : i < 32 := List.mem_range.1 hi
  have hrow : ∀ g : Grid, g.length = 32 → (∀ r ∈ g, r.length = 32) → (g.getD i []).length = 32 := by
    intro g hg hr
    rw [List.getD_eq_getElem?_getD, List.getElem?_eq_getElem (by omega), Option.getD_some]
    exact hr _ (List.getElem_mem _)
  rw [Function.comp_apply, List.zipWith_eq_map_range _ _ _ 0 0 32 (hrow a ha hra) (hrow b hb hrb)]
  exact congrArg List.sum (List.map_congr_left fun j _ => sampleDistance_eq _ _)

/-- Settles O46: the reference grid of the scan, and the distance summed row by row (`gridDistance_eq`). -/
theorem matchFlagComparesTheGrids : Obligations.MatchFlagComparesTheGrids := by
  intro st threshold refs grid old lines hrefs hgrid hrows hold horows
  constructor
  · have href : referenceGrid st refs = some old := by
      rcases hrefs with ⟨hi, newer, rfl⟩ | ⟨hi, hlast⟩
      · simp [referenceGrid, hi]
      · simp [referenceGrid, hi, hlast]
    rw [matchFlag, href, ← gridDistance_eq old grid hold horows hgrid hrows]
    simp
  · rintro l (⟨hi, hl⟩ | rfl)
    · simp [matchFlag, referenceGrid, hi, hl]
    · cases hi : st.interlaced <;> simp [matchFlag, referenceGrid, hi]

/-! ## The cadence detector (R92 to R98) -/

theorem Pattern.flagAt_eq (p : Pattern) (i : Nat) : p.flags[i % p.flags.length]? = some (p.flagAt i) := by
  have hpos : 0 < p.flags.length := by cases p <;> decide
  have hlt : i % p.flags.length < p.flags.length := Nat.mod_lt _ hpos
  rw [Pattern.flagAt, Pattern.length, List.getD_eq_getElem?_getD, List.getElem?_eq_getElem hlt, Option.getD_some]

/-- Ten flags match a pattern at a rotation place by place (R96). -/
theorem Pattern.matchesAt_iff (p : Pattern) (history : List Bool) (k : Nat) (h : history.length = 10) :
    p.matchesAt history k = true ↔ ∀ i, i < 10 → history[i]? = p.flags[(i + k) % p.flags.length]? := by
  rw [Pattern.matchesAt, List.all_eq_true]
  simp only [List.mem_range, beq_iff_eq]
  refine forall_congr' fun i => imp_congr_right fun hi => ?_
  rw [Pattern.flagAt_eq, List.getD_eq_getElem?_getD, List.getElem?_eq_getElem (by omega), Option.getD_some,
    Option.some.injEq]

theorem mem_lockPlaces (patterns : List Pattern) (p : Pattern) (k : Nat) :
    (p, k) ∈ patterns.flatMap (fun p => (List.range p.length).map (fun r => (p, r))) ↔
      p ∈ patterns ∧ k < p.flags.length := by
  simp [Pattern.length]

/-- Settles O44: SEARCH through `findLock`, whose places are the patterns' rotations, and LOCKED by the flag that its
place expects. -/
theorem cadenceDetectorDecides : Obligations.CadenceDetectorDecides := by
  intro r st matched
  refine ⟨fun hnone => by simp only [Route.cadenceStep, hnone], fun c history hc hlock hhistory => ?_,
    fun c l expected hc hlock hexpected => ?_⟩
  · have hadvance : c.advance st.patterns matched = c.searchStep st.patterns matched false := by
      simp only [CadencePart.advance, hlock]
    have happend : appendHistory c.history matched = history := hhistory.symm
    refine ⟨fun p k hlen hfind => ?_, fun hno => ?_, fun hno hlen p k hp hk => ?_⟩
    · obtain ⟨hp, hk⟩ := (mem_lockPlaces st.patterns p k).1 (List.mem_of_find?_eq_some hfind)
      have hmatch : p.matchesAt history k = true :=
        List.find?_some (p := fun x : Pattern × Nat => x.1.matchesAt history x.2) hfind
      refine ⟨hp, hk, (p.matchesAt_iff history k hlen).1 hmatch, ?_⟩
      simp only [Route.cadenceStep, hc, hadvance, CadencePart.searchStep, happend, hlen, if_true, hfind, Route.raiseIf,
        Bool.false_eq_true, if_false]
      rfl
    · have hsearch : (if history.length = 10 then findLock st.patterns history else none) = none := by
        rcases hno with h | h
        · rw [if_neg h]
        · rw [h, ite_self]
      simp only [Route.cadenceStep, hc, hadvance, CadencePart.searchStep, happend, hsearch, Route.raiseIf,
        Bool.false_eq_true, if_false]
    · have hnot := List.find?_eq_none.1 hno (p, k) ((mem_lockPlaces st.patterns p k).2 ⟨hp, hk⟩)
      rw [p.matchesAt_iff history k hlen] at hnot
      push Not at hnot
      exact hnot
  · have hflag : l.pattern.flagAt l.position = expected :=
      Option.some.inj ((l.pattern.flagAt_eq l.position).symm.trans hexpected)
    refine ⟨fun he hm => ?_, fun hor => ?_⟩
    · subst he hm
      have hadvance : c.advance st.patterns false = CadencePart.search.searchStep st.patterns false true := by
        simp only [CadencePart.advance, hlock, hflag, Bool.not_false, Bool.and_true, if_true]
      simp only [Route.cadenceStep, hc, hadvance]
      rfl
    · have hkeep : (expected && !matched) = false := by rcases hor with rfl | rfl <;> simp
      simp only [Route.cadenceStep, hc, CadencePart.advance, hlock, hflag, hkeep, Bool.false_eq_true, if_false,
        Route.raiseIf]
      rfl

end Sys2Proof.Machine

/-! The arithmetic of a step (R82 to R85), of weights, lines and blends (R107 to R112), and the mapper (R128 to
R131). -/

namespace Sys2Proof.Machine

/-! ## A step's arithmetic (R82 to R85) -/

/-- A quotient rounded to the nearest lies within half its divisor. -/
theorem roundedQuotient_bounds (x e : Nat) (he : 0 < e) :
    -(e : Int) ≤ 2 * ((x : Int) - ((x + e / 2) / e : Nat) * e) ∧ 2 * ((x : Int) - ((x + e / 2) / e : Nat) * e) ≤ e := by
  have hdiv := Nat.div_add_mod (x + e / 2) e
  have hmod := Nat.mod_lt (x + e / 2) he
  have hcast : (((x + e / 2) / e : Nat) : Int) * e = ((e * ((x + e / 2) / e) : Nat) : Int) := by
    rw [Nat.mul_comm, Nat.cast_mul]
  rw [hcast]
  generalize e * ((x + e / 2) / e) = p at hdiv ⊢
  omega

theorem correction_bounds (error : Int) :
    -2048 ≤ correction error ∧ correction error ≤ 2048 ∧
      (-131072 < error → error < 131072 → (64 * correction error - error).natAbs < 64) := by
  unfold correction
  refine ⟨by omega, by omega, fun h1 h2 => ?_⟩
  rcases le_total 0 error with h | h
  · rw [Int.tdiv_eq_ediv_of_nonneg h]
    omega
  · have hneg : error.tdiv 64 = -(-error / 64) := by
      rw [← Int.tdiv_eq_ediv_of_nonneg (by omega : (0 : Int) ≤ -error), Int.neg_tdiv, Int.neg_neg]
    rw [hneg]
    omega

/-- The clamped phase is the phase held to 0 and the ceiling (R84). -/
theorem clampPhase_eq (n : Nat) (x : Int) (h : 2 ≤ n) :
    clampPhase n x = max 0 (min (65536 * ((n : Int) - 1) - 1) x) := by
  unfold clampPhase clampOf ceiling
  split_ifs <;> dsimp only <;> omega

theorem dominant_eq (w : Nat) (a b : WindowEntry) :
    (selectSlots w a.slot b.slot).dominant w = (dominantEntry w a b).slot := by
  unfold selectSlots dominantEntry
  split_ifs <;> dsimp only [PairSlots.dominant]
  · omega
  · omega
  · rw [if_pos (by assumption)]
  · rw [if_neg (by assumption)]

theorem selectSlots_list (w : Nat) (a b : SlotId) :
    (selectSlots w a b).list = if w = 0 then [a] else if w = 64 then [b] else [a, b] := by
  unfold selectSlots
  split_ifs <;> rfl

/-- Settles O51: the rounding (`roundedQuotient_bounds`), the correction, the clamp (`clampPhase_eq`) and the
selection. -/
theorem phaseStepStaysInTheWindow : Obligations.PhaseStepStaysInTheWindow := by
  intro n e nOut x φ error a b hn he hφ
  rw [clampPhase_eq n x hn] at hφ
  refine ⟨?_, correction_bounds error, ⟨by omega, by omega, by omega⟩, ?_, ?_, ?_, dominant_eq _ a b,
    selectSlots_list _ _ _, ?_⟩
  · have h := roundedQuotient_bounds (16777216 * nOut) e he
    rwa [Nat.cast_mul] at h
  · unfold positionA; omega
  · unfold weightOf; omega
  · unfold weightOf positionA; omega
  · unfold dominantEntry
    grind

/-! ## The shaped weight (R109, R110) -/

/-- The value of a curve between two points, a quarter at a time (R109). -/
def quarterStep (c0 c1 r : Nat) : Nat := c0 + ((c1 - c0) * r + 2) / 4

theorem quarterStep_zero (c0 c1 : Nat) : quarterStep c0 c1 0 = c0 := by
  unfold quarterStep; omega

theorem quarterStep_bounds (c0 c1 r : Nat) (h : c0 ≤ c1) (hr : r < 4) :
    c0 ≤ quarterStep c0 c1 r ∧ quarterStep c0 c1 r ≤ c1 := by
  unfold quarterStep
  interval_cases r <;> omega

theorem quarterStep_mono (c0 c1 r q : Nat) (hr : r ≤ q) : quarterStep c0 c1 r ≤ quarterStep c0 c1 q := by
  unfold quarterStep
  have hmul := Nat.mul_le_mul_left (c1 - c0) hr
  omega

/-- What a valid curve is, point by point (R110). -/
theorem curveValid_iff (points : List Nat) :
    curveValid points = true ↔
      points.length = 17 ∧ curvePoint points 0 = 0 ∧ curvePoint points 16 = 64 ∧ points.Pairwise (· ≤ ·) := by
  unfold curveValid
  simp [and_assoc]

theorem curvePoint_mono {points : List Nat} (h : curveValid points = true) (i j : Nat) (hij : i ≤ j) (hj : j ≤ 16) :
    curvePoint points i ≤ curvePoint points j := by
  obtain ⟨hlen, -, -, hsorted⟩ := (curveValid_iff points).1 h
  rcases Nat.eq_or_lt_of_le hij with rfl | hlt
  · exact Nat.le_refl _
  · have hpair := List.pairwise_iff_getElem.1 hsorted i j (by omega) (by omega) hlt
    simpa [curvePoint, List.getD_eq_getElem?_getD, show i < points.length by omega, show j < points.length by omega]
      using hpair

theorem curvePoint_get {points : List Nat} (h : curveValid points = true) (i : Nat) (hi : i ≤ 16) :
    points[i]? = some (curvePoint points i) := by
  obtain ⟨hlen, -⟩ := (curveValid_iff points).1 h
  rw [curvePoint, List.getD_eq_getElem?_getD, List.getElem?_eq_getElem (by omega), Option.getD_some]

theorem curve_shape_of_lt {points : List Nat} (h : curveValid points = true) (w : Nat) (hw : w < 64) :
    (Profile.curve points).shape w =
      quarterStep (curvePoint points (w / 4)) (curvePoint points (w / 4 + 1)) (w % 4) := by
  have hle := curvePoint_mono h (w / 4) (w / 4 + 1) (by omega) (by omega)
  simp only [Profile.shape, shapeCurve, hw, if_true, quarterStep]
  generalize curvePoint points (w / 4) = c0 at hle ⊢
  generalize curvePoint points (w / 4 + 1) = c1 at hle ⊢
  obtain ⟨d, rfl⟩ := Nat.exists_eq_add_of_le hle
  have hd : ((c0 + d : Nat) : Int) - (c0 : Int) = (d : Int) := by omega
  rw [hd, Nat.add_sub_cancel_left]
  norm_cast

theorem curve_shape_top (points : List Nat) : (Profile.curve points).shape 64 = 64 := rfl

theorem curve_shape_mono {points : List Nat} (h : curveValid points = true) (v w : Nat) (hvw : v ≤ w) (hw : w ≤ 64) :
    (Profile.curve points).shape v ≤ (Profile.curve points).shape w := by
  obtain ⟨-, -, hlast, -⟩ := (curveValid_iff points).1 h
  have hstep : ∀ k, k < 64 → curvePoint points (k / 4) ≤ curvePoint points (k / 4 + 1) := fun k hk =>
    curvePoint_mono h _ _ (by omega) (by omega)
  have hupper : ∀ k, k < 64 → (Profile.curve points).shape k ≤ curvePoint points (k / 4 + 1) := fun k hk => by
    rw [curve_shape_of_lt h k hk]
    exact (quarterStep_bounds _ _ _ (hstep k hk) (by omega)).2
  rcases Nat.eq_or_lt_of_le hw with rfl | hw
  · rcases Nat.eq_or_lt_of_le hvw with rfl | hv
    · exact Nat.le_refl _
    · rw [curve_shape_top]
      exact ((hupper v hv).trans (curvePoint_mono h _ 16 (by omega) (by omega))).trans hlast.le
  · have hv : v < 64 := by omega
    by_cases hseg : v / 4 = w / 4
    · rw [curve_shape_of_lt h v hv, curve_shape_of_lt h w hw, hseg]
      exact quarterStep_mono _ _ _ _ (by omega)
    · rw [curve_shape_of_lt h w hw]
      exact ((hupper v hv).trans (curvePoint_mono h _ (w / 4) (by omega) (by omega))).trans
        (quarterStep_bounds _ _ _ (hstep w hw) (by omega)).1

theorem curve_shape_spec (points : List Nat) (w v : Nat) (h : curveValid points = true) (hw : w ≤ 64) :
    (w % 4 = 0 → points[w / 4]? = some ((Profile.curve points).shape w)) ∧
      (∀ c0 c1, w < 64 → points[w / 4]? = some c0 → points[w / 4 + 1]? = some c1 →
        (Profile.curve points).shape w = c0 + ((c1 - c0) * (w % 4) + 2) / 4) ∧
      (Profile.curve points).shape w ≤ 64 ∧
      (v ≤ w → (Profile.curve points).shape v ≤ (Profile.curve points).shape w) := by
  obtain ⟨-, -, hlast, -⟩ := (curveValid_iff points).1 h
  refine ⟨fun hzero => ?_, fun c0 c1 hlt h0 h1 => ?_, ?_, fun hvw => curve_shape_mono h v w hvw hw⟩
  · rw [curvePoint_get h _ (by omega)]
    rcases Nat.eq_or_lt_of_le hw with rfl | hlt
    · rw [curve_shape_top]
      exact congrArg some hlast
    · rw [curve_shape_of_lt h w hlt, hzero, quarterStep_zero]
  · rw [curvePoint_get h _ (by omega), Option.some.injEq] at h0 h1
    rw [curve_shape_of_lt h w hlt, h0, h1]
    rfl
  · exact (curve_shape_mono h w 64 hw le_rfl).trans_eq (curve_shape_top points)

/-! ## The blend and the legal range (R111, R112) -/

theorem blendSample_spec (w a b : Nat) (hw : w ≤ 64) :
    (64 * blendSample w a b ≤ (64 - w) * a + w * b + 32 ∧ (64 - w) * a + w * b < 64 * blendSample w a b + 32) ∧
      min a b ≤ blendSample w a b ∧ blendSample w a b ≤ max a b ∧ blendSample 0 a b = a ∧ blendSample 64 a b = b := by
  have hlow : 64 * min a b ≤ (64 - w) * a + w * b := by
    have h1 := Nat.mul_le_mul_left (64 - w) (Nat.min_le_left a b)
    have h2 := Nat.mul_le_mul_left w (Nat.min_le_right a b)
    have hsum : 64 * min a b = (64 - w) * min a b + w * min a b := by rw [← Nat.add_mul, Nat.sub_add_cancel hw]
    omega
  have hhigh : (64 - w) * a + w * b ≤ 64 * max a b := by
    have h1 := Nat.mul_le_mul_left (64 - w) (Nat.le_max_left a b)
    have h2 := Nat.mul_le_mul_left w (Nat.le_max_right a b)
    have hsum : 64 * max a b = (64 - w) * max a b + w * max a b := by rw [← Nat.add_mul, Nat.sub_add_cancel hw]
    omega
  unfold blendSample
  refine ⟨⟨by omega, by omega⟩, by omega, by omega, by omega, by omega⟩

theorem legal_spec (x : Nat) :
    64 ≤ legalLuma x ∧ legalLuma x ≤ 940 ∧ 64 ≤ legalChroma x ∧ legalChroma x ≤ 960 ∧
      (64 ≤ x → x ≤ 940 → legalLuma x = x) ∧ (64 ≤ x → x ≤ 960 → legalChroma x = x) := by
  unfold legalLuma legalChroma clampSample
  omega

/-! ## The vertical mapping (R107) -/

theorem Standard.height_pos (st : Standard) : 0 < st.height := by cases st <;> decide

theorem Standard.lines_pos (st : Standard) : 0 < st.lines := by cases st <;> decide

theorem sourceStep_pos (p : Parity) : 0 < sourceStep p := by cases p <;> decide

theorem linePosition_le (out src : Standard) (p q : Parity) (y : Nat) :
    linePosition out p src q y ≤ 16 * (src.lines - 1) := by
  unfold linePosition
  dsimp only
  split
  · omega
  · exact Nat.min_le_right _ _

/-- A source of the output's own standard and parity is mapped line to line. -/
theorem linePosition_self (st : Standard) (p : Parity) (y : Nat) (hy : y < st.lines) :
    linePosition st p st p y = 16 * y := by
  have hplace : outputPlace p y = sourceStep p * y + sourceOffset p := by
    cases p <;> simp only [outputPlace, sourceStep, sourceOffset] <;> omega
  have hden : 0 < sourceStep p * st.height := Nat.mul_pos (sourceStep_pos p) st.height_pos
  have hnum : (16 * ((outputPlace p y * st.height : Nat) - (sourceOffset p * st.height : Nat)) : Int) =
      ((16 * y * (sourceStep p * st.height) : Nat) : Int) := by
    rw [hplace]
    push_cast
    ring
  unfold linePosition
  rw [hnum]
  dsimp only
  rw [if_neg (by omega), Int.toNat_natCast, Nat.add_comm, Nat.add_mul_div_right _ _ hden,
    Nat.div_eq_of_lt (by omega), Nat.zero_add]
  omega

theorem linePosition_formula (out src : Standard) (p q : Parity) (y place offset step : Nat) (num den : Int)
    (hplace : (p = .frame ∧ place = y) ∨ (p = .top ∧ place = 2 * y) ∨ (p = .bottom ∧ place = 2 * y + 1))
    (hstep : (q = .frame ∧ step = 1 ∧ offset = 0) ∨ (q = .top ∧ step = 2 ∧ offset = 0) ∨
      (q = .bottom ∧ step = 2 ∧ offset = 1))
    (hnum : num = 16 * ((place : Int) * src.height - offset * out.height)) (hden : den = step * out.height) :
    (linePosition out p src q y : Int) =
      if num < 0 then 0 else min ((num + den / 2) / den) (16 * ((src.lines : Int) - 1)) := by
  have hp : outputPlace p y = place := by rcases hplace with ⟨rfl, rfl⟩ | ⟨rfl, rfl⟩ | ⟨rfl, rfl⟩ <;> rfl
  have hq : sourceStep q = step ∧ sourceOffset q = offset := by
    rcases hstep with ⟨rfl, rfl, rfl⟩ | ⟨rfl, rfl, rfl⟩ | ⟨rfl, rfl, rfl⟩ <;> exact ⟨rfl, rfl⟩
  have hlines := src.lines_pos
  have hnum' : (16 * ((place * src.height : Nat) - (offset * out.height : Nat)) : Int) = num := by
    rw [hnum]
    push_cast
    ring
  have hden' : ((step * out.height : Nat) : Int) = den := by
    rw [hden]
    push_cast
    ring
  unfold linePosition
  rw [hp, hq.1, hq.2, hnum']
  dsimp only
  generalize step * out.height = d at hden' ⊢
  subst hden'
  split
  · rfl
  · next hneg =>
    obtain ⟨n, rfl⟩ := Int.eq_ofNat_of_zero_le (Int.not_lt.1 hneg)
    rw [Int.toNat_natCast]
    push_cast [Nat.cast_sub hlines]
    rfl

theorem mapSample_spec (lines j v : Nat) (sample : Nat → Nat) (hj : j < lines) (hv : v < 16) :
    mapSample lines (16 * j + v) sample =
      ((16 - v) * sample j + v * sample (if j + 1 < lines then j + 1 else j) + 8) / 16 := by
  have hdiv : (16 * j + v) / 16 = j := by omega
  have hmod : (16 * j + v) % 16 = v := by omega
  have hnext : min (j + 1) (lines - 1) = if j + 1 < lines then j + 1 else j := by split <;> omega
  rw [mapSample, hdiv, hmod, hnext]

/-- A mapped column is read from the region of the source's slot (R40). -/
theorem mapPel_sourceOf (dram : List Host.Cell) (slots : SlotTable) (out : Standard) (parity : Parity) (i : SlotId)
    (src : Standard) (y col : Nat) (mapped : Nat → Nat) (hsrc : (tget slots i).standard = some src)
    (hmapped : ∀ k, mapped k = mapSample src.lines (linePosition out parity src (tget slots i).parity y)
      (fun j => Memory.readWord dram (i.val * 8388608 + j * (4 * src.width) + 4 * col + k))) :
    mapPel dram out parity (sourceOf slots out i) y col = (mapped 0, mapped 2) := by
  rw [hmapped, hmapped]
  simp only [mapPel, sourceOf, hsrc, pelAddress, slotBytes, Nat.add_zero, Option.getD_some]

/-- Settles O52, part by part. -/
theorem blendStaysBetweenItsSamples : Obligations.BlendStaysBetweenItsSamples := by
  refine ⟨curve_shape_spec, fun _ => rfl, blendSample_spec, legal_spec, fun out src p q y sample hy _ _ => ?_,
    linePosition_formula, mapSample_spec, fun dram slots pic y col src mapped hsrc hmapped => ⟨?_, ?_⟩⟩
  · refine ⟨linePosition_le out src p q y, ?_⟩
    rintro rfl rfl
    have hself := linePosition_self out p y hy
    refine ⟨hself, ?_⟩
    rw [hself]
    have hmap := mapSample_spec out.lines y 0 sample hy (by omega)
    rw [Nat.add_zero] at hmap
    rw [hmap]
    omega
  · have hpel : ∀ a ∈ pic.slots.list, mapPel dram pic.standard pic.parity (sourceOf slots pic.standard a) y col =
        (mapped a 0, mapped a 2) := fun a ha =>
      mapPel_sourceOf dram slots pic.standard pic.parity a (src a) y col (mapped a) (hsrc a ha) (hmapped a)
    rintro a (h | h) <;> rw [h] at hpel <;> simp only [blendPel, h] <;> exact hpel a (by simp [PairSlots.list])
  · have hpel : ∀ a ∈ pic.slots.list, mapPel dram pic.standard pic.parity (sourceOf slots pic.standard a) y col =
        (mapped a 0, mapped a 2) := fun a ha =>
      mapPel_sourceOf dram slots pic.standard pic.parity a (src a) y col (mapped a) (hsrc a ha) (hmapped a)
    intro a b h
    rw [h] at hpel
    simp only [blendPel, h, hpel a (by simp [PairSlots.list]), hpel b (by simp [PairSlots.list])]

/-! ## The mapper (R128 to R131) -/

theorem outputList_cons (setting : RouteSetting) (new : Bool) (p : Packet) (rest : List Packet) :
    outputList setting new (p :: rest) = (mapPacket setting new p).toList ++ outputList setting new rest := by
  unfold outputList
  rw [List.filterMap_cons]
  cases mapPacket setting new p <;> rfl

theorem outputList_family (setting : RouteSetting) (new : Bool) (l : List Packet) :
    ∀ q ∈ outputList setting new l, q.key.family ≠ 0 := by
  intro q hq
  obtain ⟨p, -, hp⟩ := List.mem_filterMap.1 hq
  simpa using (Option.filter_eq_some_iff.1 hp).2

theorem mapPacket_unmapped (setting : RouteSetting) (new : Bool) (p : Packet) (hp : p.key.family ≠ 0)
    (h : ∀ e ∈ setting.mapList, e.key ≠ p.key) :
    (mapPacket setting new p).toList =
      if setting.unmapped = .passEvery ∨ (setting.unmapped = .passOnce ∧ new = true) then [p] else [] := by
  have hfind : setting.mapList.find? (fun e => e.key == p.key) = none :=
    List.find?_eq_none.2 fun e he => by simpa using h e he
  have hkept : ¬p.key.family = 0#8 := hp
  unfold mapPacket
  rw [hfind]
  cases setting.unmapped <;> cases new <;> simp [UnmappedAction.decide, hkept]

theorem mapPacket_entry (setting : RouteSetting) (new : Bool) (p : Packet) (before after : List MapEntry) (e : MapEntry)
    (hlist : setting.mapList = before ++ e :: after) (he : e.key = p.key) (hbefore : ∀ x ∈ before, x.key ≠ p.key) :
    mapPacket setting new p = Option.filter (fun q => q.key.family != 0) (e.action.decide new p) := by
  have hfind : setting.mapList.find? (fun e => e.key == p.key) = some e := by
    rw [hlist, List.find?_append, List.find?_eq_none.2 fun x hx => by simpa using hbefore x hx]
    simp [he]
  simp only [mapPacket, hfind]

/-- Settles O53: the first entry with the packet's key is the one found, and each action decides on its own. -/
theorem mapperActsOnEachPacket : Obligations.MapperActsOnEachPacket := by
  intro setting new p rest carried hp hcases
  have hcarried : (mapPacket setting new p).toList = carried := by
    rcases hcases with ⟨hnone, rfl⟩ | ⟨before, e, after, hlist, he, hbefore, haction⟩
    · exact mapPacket_unmapped setting new p hp hnone
    · have hkept : ¬p.key.family = 0#8 := hp
      rw [mapPacket_entry setting new p before after e hlist he hbefore]
      rcases haction with ⟨ha, rfl⟩ | ⟨policy, ha, rfl⟩ | ⟨policy, key, ha, rfl⟩ <;> rw [ha]
      · rfl
      · cases policy <;> cases new <;> simp [MapAction.decide, RepeatPolicy.carries, hkept]
      · by_cases hk : key.family = 0#8 <;> cases policy <;> cases new <;>
          simp [MapAction.decide, RepeatPolicy.carries, hk]
  refine ⟨?_, rfl, ?_, outputList_family setting new _⟩
  · rw [outputList_cons, hcarried]
  · exact List.length_filterMap_le _ _

end Sys2Proof.Machine

/-! What a boundary makes each port carry and each record show there (R114, R121, R122, R126): the turns of the ports,
each of which reads its own port and the record shown on it. -/

namespace Sys2Proof.Machine

/-! ## One port -/

/-- The record of a route after its port's boundary (R114, R126). -/
def Route.shown (r : Route) (mute : Bool) (slots : SlotTable) (parity : Parity) : Route :=
  match routeContent (some r), r.dominantSlot with
  | .black, _ => { r with picture := r.contentPicture .black parity }
  | _, none => { r with picture := r.contentPicture .black parity }
  | _, some d =>
    { r with
      picture := r.contentPicture (carriedContent mute (routeContent (some r))) parity
      lastDominant := some (tget slots d).seq }

/-- The record of a port after its boundary with a route on it (R121, R122). -/
def Port.showing (a : Port) (r : Route) (slots : SlotTable) (house : Option Timecode) : Port :=
  match routeContent (some r), r.dominantSlot with
  | .black, _ => a.carryBlack house
  | _, none => a.carryBlack house
  | _, some d =>
    if carriedContent a.mute (routeContent (some r)) = .black then a.carryBlack house
    else a.carry (carriedContent a.mute (routeContent (some r)))
      (outputList r.setting (r.newPicture (tget slots d).seq) (tget slots d).packets)
      (chosenTimecode r.setting.timecode (tget slots d) house)

/-- The record of a port after its boundary (R121). -/
def Port.showingAny (a : Port) (r : Option Route) (slots : SlotTable) (house : Option Timecode) : Port :=
  match r with
  | none => a.carryBlack house
  | some r => a.showing r slots house

theorem State.carryRoute_eq (s : State) (p : PortId) (i : RouteId) (parity : Parity) (house : Option Timecode) :
    s.carryRoute p i parity house =
      (s.setRoute i ((s.route i).shown (s.port p).mute s.slots parity)).setPort p
        ((s.port p).showing (s.route i) s.slots house) := by
  unfold State.carryRoute Route.shown Port.showing
  dsimp only
  cases routeContent (some (s.route i)) <;> cases (s.route i).dominantSlot <;> rfl

/-- The port as the interval begins: its black lines are in its timeline's standard from here on (R113). -/
def State.begunPort (s : State) (p : PortId) : Port := { s.port p with standard := s.portStandard p }

theorem State.portBoundary_none (s : State) (p : PortId) (parity : Parity) (house : Option Timecode)
    (h : s.routeOnPort p = none) :
    s.portBoundary p parity house = (s.beginInterval p).setPort p ((s.begunPort p).carryBlack house) := by
  have hbegun : (s.beginInterval p).port p = s.begunPort p := by
    rw [State.beginInterval, State.setPort_port, if_pos rfl, State.begunPort]
  have hroute : (s.beginInterval p).routeOnPort p = s.routeOnPort p := rfl
  rw [State.portBoundary, State.portContent, hroute, h, hbegun]

theorem State.portBoundary_some (s : State) (p : PortId) (i : RouteId) (parity : Parity) (house : Option Timecode)
    (h : s.routeOnPort p = some i) :
    s.portBoundary p parity house =
      ((s.beginInterval p).setRoute i ((s.route i).shown (s.port p).mute s.slots parity)).setPort p
        ((s.begunPort p).showing (s.route i) s.slots house) := by
  have hbegun : (s.beginInterval p).port p = s.begunPort p := by
    rw [State.beginInterval, State.setPort_port, if_pos rfl, State.begunPort]
  have hroute : (s.beginInterval p).routeOnPort p = s.routeOnPort p := rfl
  rw [State.portBoundary, State.portContent, hroute, h]
  dsimp only
  rw [State.carryRoute_eq, hbegun]
  rfl

theorem State.portBoundary_port (s : State) (p q : PortId) (parity : Parity) (house : Option Timecode) :
    (s.portBoundary p parity house).port q =
      if p = q then (s.begunPort p).showingAny ((s.routeOnPort p).map s.route) s.slots house else s.port q := by
  have hrest : ∀ a, (if p = q then a else (s.beginInterval p).port q) = if p = q then a else s.port q := by
    intro a
    split
    · rfl
    · next h => rw [State.beginInterval, State.setPort_port, if_neg h]
  cases h : s.routeOnPort p with
  | none =>
    rw [State.portBoundary_none _ _ _ _ h, State.setPort_port, hrest]
    rfl
  | some i =>
    rw [State.portBoundary_some _ _ i _ _ h, State.setPort_port]
    exact hrest _

theorem State.portBoundary_record (s : State) (p : PortId) (parity : Parity) (house : Option Timecode) (j : RouteId) :
    (s.portBoundary p parity house).route j =
      if s.routeOnPort p = some j then (s.route j).shown (s.port p).mute s.slots parity else s.route j := by
  cases h : s.routeOnPort p with
  | none => rw [State.portBoundary_none _ _ _ _ h]; rfl
  | some i =>
    rw [State.portBoundary_some _ _ i _ _ h]
    refine (State.setRoute_route (s.beginInterval p) i j _).trans ?_
    by_cases hij : i = j
    · subst hij
      rw [if_pos rfl, if_pos rfl]
    · rw [if_neg hij, if_neg fun he => hij (Option.some.inj he)]
      rfl

/-! ## The turns of the ports -/

/-- One port's turn at a boundary. -/
def State.portTurn (t : TimelineId) (parity : Parity) (house : Option Timecode) (s : State) (p : PortId) : State :=
  if s.portTimeline p = t then s.portBoundary p parity house else s

/-- The port that a boundary leaves. -/
def State.portShown (s : State) (t : TimelineId) (house : Option Timecode) (p : PortId) : Port :=
  if s.portTimeline p = t then (s.begunPort p).showingAny ((s.routeOnPort p).map s.route) s.slots house else s.port p

/-- The record that the ports of a boundary leave: the one shown on its port is the first live one that names it. -/
def State.routeShown (s : State) (t : TimelineId) (parity : Parity) (j : RouteId) : Route :=
  if s.portTimeline (s.route j).port = t ∧ s.routeOnPort (s.route j).port = some j then
    (s.route j).shown (s.port (s.route j).port).mute s.slots parity
  else s.route j

theorem State.routeOnPort_port {s : State} {p : PortId} {i : RouteId} (h : s.routeOnPort p = some i) :
    (s.route i).state.live = true ∧ (s.route i).port = p := by
  have hon := List.find?_some h
  rw [Route.liveOn, Bool.and_eq_true, beq_iff_eq] at hon
  exact hon

theorem State.portTurn_port (s : State) (t : TimelineId) (parity : Parity) (house : Option Timecode) (p q : PortId) :
    (s.portTurn t parity house p).port q = if p = q then s.portShown t house p else s.port q := by
  unfold State.portTurn State.portShown
  split
  · exact State.portBoundary_port s p q parity house
  · split
    · next h => rw [h]
    · rfl

theorem State.portTurn_route (s : State) (t : TimelineId) (parity : Parity) (house : Option Timecode) (p : PortId)
    (j : RouteId) :
    (s.portTurn t parity house p).route j = if (s.route j).port = p then s.routeShown t parity j else s.route j := by
  have hport : s.routeOnPort p = some j → (s.route j).port = p := fun h => (State.routeOnPort_port h).2
  unfold State.portTurn State.routeShown
  split
  · next htime =>
    rw [State.portBoundary_record]
    by_cases hj : (s.route j).port = p
    · rw [if_pos hj, hj]
      simp only [htime, true_and]
    · rw [if_neg hj, if_neg fun h => hj (hport h)]
  · next htime =>
    by_cases hj : (s.route j).port = p
    · rw [if_pos hj, hj, if_neg fun h => htime h.1]
    · rw [if_neg hj]

theorem Route.shown_frame (r : Route) (mute : Bool) (slots : SlotTable) (parity : Parity) :
    r.shown mute slots parity =
      { r with
        picture := (r.shown mute slots parity).picture, lastDominant := (r.shown mute slots parity).lastDominant } := by
  unfold Route.shown
  split <;> rfl

theorem State.routeShown_frame (s : State) (t : TimelineId) (parity : Parity) (j : RouteId) :
    s.routeShown t parity j =
      { s.route j with
        picture := (s.routeShown t parity j).picture, lastDominant := (s.routeShown t parity j).lastDominant } := by
  unfold State.routeShown
  split
  · exact Route.shown_frame _ _ _ _
  · rfl

theorem State.begunPort_showingAny_frame (s : State) (p : PortId) (r : Option Route) (house : Option Timecode) :
    (s.begunPort p).showingAny r s.slots house =
      { s.port p with
        standard := s.portStandard p
        content := ((s.begunPort p).showingAny r s.slots house).content
        timecode := ((s.begunPort p).showingAny r s.slots house).timecode
        packets := ((s.begunPort p).showingAny r s.slots house).packets } := by
  cases r with
  | none => rfl
  | some r =>
    unfold Port.showingAny Port.showing
    dsimp only
    repeat' split
    all_goals rfl

theorem State.portTurn_portTimeline (s : State) (t : TimelineId) (parity : Parity) (house : Option Timecode)
    (p q : PortId) : (s.portTurn t parity house p).portTimeline q = s.portTimeline q := by
  unfold State.portTimeline
  rw [State.portTurn_port]
  split
  · next h =>
    subst h
    unfold State.portShown
    split
    · rw [State.begunPort_showingAny_frame]
    · rfl
  · rfl

theorem State.portTurn_only (s : State) (t : TimelineId) (parity : Parity) (house : Option Timecode) (p : PortId) :
    s.portTurn t parity house p =
      { s with routes := (s.portTurn t parity house p).routes, ports := (s.portTurn t parity house p).ports } := by
  unfold State.portTurn
  split
  · exact State.portBoundary_only s p parity house
  · rfl

theorem State.portTurn_routeOnPort (s : State) (t : TimelineId) (parity : Parity) (house : Option Timecode)
    (p q : PortId) : (s.portTurn t parity house p).routeOnPort q = s.routeOnPort q := by
  have hlive : ∀ j, ((s.portTurn t parity house p).route j).liveOn q = (s.route j).liveOn q := by
    intro j
    rw [State.portTurn_route]
    split
    · rw [State.routeShown_frame]; rfl
    · rfl
  unfold State.routeOnPort
  simp only [hlive]

theorem State.portTurn_portStandard (s : State) (t : TimelineId) (parity : Parity) (house : Option Timecode)
    (p q : PortId) : (s.portTurn t parity house p).portStandard q = s.portStandard q := by
  have hline : ∀ v, (s.portTurn t parity house p).timeline v = s.timeline v := fun v => by
    rw [State.portTurn_only]
    cases v <;> rfl
  rw [State.portStandard, State.portTurn_portTimeline, hline]
  rfl

/-- A port that has not had its turn finds what its turn reads as it stood. -/
theorem State.portTurn_portShown (s : State) (t : TimelineId) (parity : Parity) (house : Option Timecode)
    (p q : PortId) (hpq : p ≠ q) : (s.portTurn t parity house p).portShown t house q = s.portShown t house q := by
  have hport : (s.portTurn t parity house p).port q = s.port q := by rw [State.portTurn_port, if_neg hpq]
  have hbegun : (s.portTurn t parity house p).begunPort q = s.begunPort q := by
    rw [State.begunPort, State.portTurn_portStandard, hport]
    rfl
  have hslots : (s.portTurn t parity house p).slots = s.slots := by rw [State.portTurn_only]
  have hroute : (s.routeOnPort q).map (s.portTurn t parity house p).route = (s.routeOnPort q).map s.route := by
    cases h : s.routeOnPort q with
    | none => rfl
    | some i =>
      have hi := (State.routeOnPort_port h).2
      rw [Option.map_some, Option.map_some, State.portTurn_route, if_neg fun he => hpq (he.symm.trans hi)]
  unfold State.portShown
  rw [State.portTurn_portTimeline, State.portTurn_routeOnPort, hport, hbegun, hslots, hroute]

theorem State.portTurn_routeShown (s : State) (t : TimelineId) (parity : Parity) (house : Option Timecode)
    (p : PortId) (j : RouteId) (hp : (s.route j).port ≠ p) :
    (s.portTurn t parity house p).routeShown t parity j = s.routeShown t parity j := by
  have hroute : (s.portTurn t parity house p).route j = s.route j := by rw [State.portTurn_route, if_neg hp]
  have hport : (s.portTurn t parity house p).port (s.route j).port = s.port (s.route j).port := by
    rw [State.portTurn_port, if_neg (Ne.symm hp)]
  have hslots : (s.portTurn t parity house p).slots = s.slots := by rw [State.portTurn_only]
  unfold State.routeShown
  rw [hroute, State.portTurn_portTimeline, State.portTurn_routeOnPort, hport, hslots]

theorem State.portsTurn_spec (t : TimelineId) (parity : Parity) (house : Option Timecode) (l : List PortId)
    (hl : l.Nodup) (s : State) :
    (∀ q, (l.foldl (State.portTurn t parity house) s).port q = if q ∈ l then s.portShown t house q else s.port q) ∧
      ∀ j, (l.foldl (State.portTurn t parity house) s).route j =
        if (s.route j).port ∈ l then s.routeShown t parity j else s.route j := by
  induction l generalizing s with
  | nil => exact ⟨fun _ => rfl, fun _ => rfl⟩
  | cons p l ih =>
    obtain ⟨hp, hl⟩ := List.nodup_cons.1 hl
    obtain ⟨hports, hroutes⟩ := ih hl (s.portTurn t parity house p)
    rw [List.foldl_cons]
    refine ⟨fun q => (hports q).trans ?_, fun j => (hroutes j).trans ?_⟩
    · by_cases hpq : p = q
      · subst hpq
        rw [if_neg hp, State.portTurn_port, if_pos rfl, if_pos (List.mem_cons_self)]
      · rw [State.portTurn_portShown _ _ _ _ _ _ hpq, State.portTurn_port, if_neg hpq]
        simp only [List.mem_cons, Ne.symm hpq, false_or]
    · have hport : ((s.portTurn t parity house p).route j).port = (s.route j).port := by
        rw [State.portTurn_route]
        split
        · rw [State.routeShown_frame]
        · rfl
      rw [hport]
      by_cases hj : (s.route j).port = p
      · rw [hj, if_neg hp, State.portTurn_route, if_pos hj, if_pos (List.mem_cons_self)]
      · rw [State.portTurn_routeShown _ _ _ _ _ _ hj, State.portTurn_route, if_neg hj]
        simp only [List.mem_cons, hj, false_or]

/-- What the ports of a boundary become: each by its own turn. -/
theorem State.portsBoundary_port (s : State) (t : TimelineId) (parity : Parity) (house : Option Timecode)
    (q : PortId) : (s.portsBoundary t parity house).port q = s.portShown t house q :=
  ((State.portsTurn_spec t parity house _ (List.nodup_finRange 8) s).1 q).trans (if_pos (List.mem_finRange q))

theorem State.portsBoundary_route (s : State) (t : TimelineId) (parity : Parity) (house : Option Timecode)
    (j : RouteId) : (s.portsBoundary t parity house).route j = s.routeShown t parity j :=
  ((State.portsTurn_spec t parity house _ (List.nodup_finRange 8) s).2 j).trans (if_pos (List.mem_finRange _))

/-! ## The slots and the device scope (R47 to R49, R64) -/

theorem State.lapseBoundary_keepsRecords (s : State) (i : RouteId) :
    SlotTable.KeepsRecords s.slots (s.lapseBoundary i).slots := by
  unfold State.lapseBoundary
  dsimp only
  split
  · exact State.retire_keepsRecords (s.setRoute i (s.route i).advanceLapse) i
  · split
    · exact SlotTable.keepsRecords_releasePair _ _
    · exact .refl _

theorem State.routeBoundary_keepsRecords (s : State) (parity : Parity) (i : RouteId) :
    SlotTable.KeepsRecords s.slots (s.routeBoundary parity i).slots := by
  unfold State.routeBoundary
  split
  · exact Route.runBoundary_keepsRecords _ _ _ _ _
  · unfold State.heldBoundary
    dsimp only
    split <;> exact .refl _
  · exact State.lapseBoundary_keepsRecords s i
  · exact State.lapseBoundary_keepsRecords s i
  · exact SlotTable.keepsRecords_releasePair _ _
  · exact .refl _
  · exact .refl _

theorem State.routesBoundary_keepsRecords (s : State) (t : TimelineId) (parity : Parity) :
    SlotTable.KeepsRecords s.slots (s.routesBoundary t parity).slots := by
  refine List.foldl_keeps (fun u : State => SlotTable.KeepsRecords s.slots u.slots) _ _ s (.refl _) fun u i hu => ?_
  split
  · exact hu.trans (State.routeBoundary_keepsRecords u parity i)
  · exact hu

theorem State.routeBoundary_device (s : State) (parity : Parity) (i : RouteId) :
    (s.routeBoundary parity i).device = if (s.route i).retires then s.device.retire i else s.device := by
  have hlapse : (s.lapseBoundary i).device =
      if (s.route i).advanceLapse.retireDue then s.device.retire i else s.device := by
    unfold State.lapseBoundary
    dsimp only
    split
    · rfl
    · split <;> rfl
  unfold State.routeBoundary Route.retires
  cases h : (s.route i).state
  case held =>
    unfold State.heldBoundary
    dsimp only
    split <;> rfl
  case starved => exact hlapse
  case lapsed => exact hlapse
  all_goals rfl

/-- Whether a boundary of the timeline retires the record (R64). -/
def State.retiredAt (s : State) (t : TimelineId) (i : RouteId) : Bool :=
  decide (s.portTimeline (s.route i).port = t) && (s.route i).retires

/-- The device scope once the records of a list are retired (R64, R158). -/
def Device.retiring (d : Device) (gone : RouteId → Bool) (l : List RouteId) : Device :=
  l.foldl (fun d i => if gone i then d.retire i else d) d

theorem State.turn_device (s : State) (t : TimelineId) (parity : Parity) (i : RouteId) :
    (if s.portTimeline (s.route i).port = t then s.routeBoundary parity i else s).device =
      if s.retiredAt t i then s.device.retire i else s.device := by
  unfold State.retiredAt
  by_cases h : s.portTimeline (s.route i).port = t
  · rw [if_pos h, State.routeBoundary_device, decide_eq_true h, Bool.true_and]
  · rw [if_neg h, decide_eq_false h, Bool.false_and]
    rfl

theorem State.turn_retiredAt (s : State) (t : TimelineId) (parity : Parity) (i j : RouteId) (hij : i ≠ j) :
    (if s.portTimeline (s.route i).port = t then s.routeBoundary parity i else s).retiredAt t j = s.retiredAt t j := by
  have hport : ∀ p,
      (if s.portTimeline (s.route i).port = t then s.routeBoundary parity i else s).portTimeline p =
        s.portTimeline p := fun p => by
    split
    · rw [State.routeBoundary_only]; rfl
    · rfl
  rw [State.retiredAt, State.turn_route, if_neg hij, hport]
  rfl

theorem State.routesTurn_device (t : TimelineId) (parity : Parity) (l : List RouteId) (hl : l.Nodup) (s : State) :
    (State.routesTurn t parity l s).device = s.device.retiring (s.retiredAt t) l := by
  induction l generalizing s with
  | nil => rfl
  | cons i l ih =>
    obtain ⟨hi, hl⟩ := List.nodup_cons.1 hl
    have hrest : ∀ d : Device, d.retiring
        ((if s.portTimeline (s.route i).port = t then s.routeBoundary parity i else s).retiredAt t) l =
        d.retiring (s.retiredAt t) l := by
      intro d
      refine List.foldl_ext _ _ _ fun d j hj => ?_
      have hij : i ≠ j := fun he => hi (by rw [he]; exact hj)
      rw [State.turn_retiredAt _ _ _ _ _ hij]
    refine (ih hl _).trans ?_
    rw [hrest, State.turn_device]
    rfl

theorem State.routesBoundary_device (s : State) (t : TimelineId) (parity : Parity) :
    (s.routesBoundary t parity).device = s.device.retiring (s.retiredAt t) (List.finRange 16) :=
  State.routesTurn_device t parity _ (List.nodup_finRange 16) s

theorem oneBit_getLsbD (i j : RouteId) : (1#16 <<< j.val).getLsbD i.val = decide (i = j) := by
  rw [BitVec.getLsbD_shiftLeft, BitVec.getLsbD_one]
  by_cases h : i = j
  · simp [h]
  · have hne : i.val ≠ j.val := fun he => h (Fin.ext he)
    simp only [h, decide_false]
    grind

/-- The pending set gains AUTO_RETIRE where a record of the list is retired, the retired set gains those records, and
nothing else of the device scope moves (R64, R158). -/
theorem Device.retiring_spec (gone : RouteId → Bool) (l : List RouteId) (d : Device) :
    d.retiring gone l =
        { d with
          events := d.events ||| (if l.any gone then 0x10 else 0), retired := (d.retiring gone l).retired } ∧
      ∀ i : RouteId, (d.retiring gone l).retired.getLsbD i.val =
        (d.retired.getLsbD i.val || (decide (i ∈ l) && gone i)) := by
  induction l generalizing d with
  | nil => exact ⟨by simp [Device.retiring], by simp [Device.retiring]⟩
  | cons j l ih =>
    obtain ⟨hframe, hbits⟩ := ih (if gone j then d.retire j else d)
    have hcons : d.retiring gone (j :: l) = (if gone j then d.retire j else d).retiring gone l := rfl
    rw [hcons]
    refine ⟨hframe.trans ?_, fun i => (hbits i).trans ?_⟩
    · cases hj : gone j
      · simp [hj]
      · simp only [hj, if_true, List.any_cons, Bool.true_or, Device.retire, Device.raise, DeviceEvent.mask]
        congr 1
        rw [BitVec.or_assoc]
        split <;> rfl
    · have hretired : (if gone j then d.retire j else d).retired.getLsbD i.val =
          (d.retired.getLsbD i.val || (gone j && decide (i = j))) := by
        cases gone j
        · simp
        · exact (BitVec.getLsbD_or).trans (congrArg _ (oneBit_getLsbD i j))
      rw [hretired]
      by_cases hij : i = j
      · subst hij
        have hbool : ∀ r g m : Bool, (r || (g && true) || (m && g)) = (r || (true && g)) := by decide
        rw [decide_eq_true rfl, decide_eq_true (List.mem_cons_self)]
        exact hbool _ _ _
      · simp [hij]

end Sys2Proof.Machine

/-! An output boundary of a running timeline, block by block (R11, R62 to R64, R81 to R88, R121, R143): each
obligation is read off what the records' turns (`State.turned`) and the ports' turns (`State.portShown`,
`State.routeShown`) leave. -/

namespace Sys2Proof.Machine

/-! ## The state after each block -/

theorem State.setTimeline_timeline (s : State) (u v : TimelineId) (tl : Timeline) :
    (s.setTimeline u tl).timeline v = if v = u then tl else s.timeline v := by
  cases u <;> cases v <;> rfl

theorem State.afterRoutes_route (s : State) (u : TimelineId) (i : RouteId) :
    (s.afterRoutes u).route i = s.turned u (s.timeline u).nextParity i := by
  refine (State.routesBoundary_route _ _ _ _).trans ?_
  cases u <;> rfl

theorem State.afterRoutes_port (s : State) (u : TimelineId) (p : PortId) : (s.afterRoutes u).port p = s.port p := by
  rw [State.afterRoutes_only]
  cases u <;> rfl

theorem State.afterRoutes_portTimeline (s : State) (u : TimelineId) (p : PortId) :
    (s.afterRoutes u).portTimeline p = s.portTimeline p :=
  congrArg Port.timeline (s.afterRoutes_port u p)

theorem State.afterRoutes_monitor (s : State) (u : TimelineId) : (s.afterRoutes u).monitor = s.monitor := by
  rw [State.afterRoutes_only]
  cases u <;> rfl

theorem State.afterRoutes_timeline (s : State) (u v : TimelineId) :
    (s.afterRoutes u).timeline v = if v = u then (s.timeline u).boundary else s.timeline v := by
  have ha : (s.afterRoutes u).timelineA = (s.setTimeline u (s.timeline u).boundary).timelineA := by
    rw [State.afterRoutes_only]
  have hb : (s.afterRoutes u).timelineB = (s.setTimeline u (s.timeline u).boundary).timelineB := by
    rw [State.afterRoutes_only]
  rw [← State.setTimeline_timeline s u v]
  cases v
  · exact ha
  · exact hb

theorem State.afterRoutes_device (s : State) (u : TimelineId) :
    (s.afterRoutes u).device = s.device.retiring (s.retiredAt u) (List.finRange 16) := by
  refine (State.routesBoundary_device _ _ _).trans ?_
  cases u <;> rfl

theorem State.afterRoutes_keepsRecords (s : State) (u : TimelineId) :
    SlotTable.KeepsRecords s.slots (s.afterRoutes u).slots := by
  have h := State.routesBoundary_keepsRecords (s.setTimeline u (s.timeline u).boundary) u (s.timeline u).nextParity
  rwa [State.setTimeline_slots] at h

theorem State.afterPorts_route (s : State) (u : TimelineId) (i : RouteId) :
    (s.afterPorts u).route i = (s.afterRoutes u).routeShown u (s.timeline u).nextParity i :=
  State.portsBoundary_route _ _ _ _ _

theorem State.afterPorts_port (s : State) (u : TimelineId) (p : PortId) :
    (s.afterPorts u).port p = (s.afterRoutes u).portShown u (some (s.timeline u).nextTimecode) p :=
  State.portsBoundary_port _ _ _ _ _

theorem State.boundary_route (s : State) (u : TimelineId) (i : RouteId) :
    (s.boundary u).notify.route i = (s.afterRoutes u).routeShown u (s.timeline u).nextParity i := by
  rw [← State.afterPorts_route]
  have h : (s.boundary u).notify.routes = (s.afterPorts u).routes := by
    rw [State.notify_routes, State.boundary_only]
  exact State.route_eq_of_routes_eq h i

theorem State.boundary_port (s : State) (u : TimelineId) (p : PortId) :
    (s.boundary u).notify.port p = (s.afterPorts u).port p := by
  have h : (s.boundary u).notify.ports = (s.afterPorts u).ports := by rw [State.notify_ports, State.boundary_only]
  exact congrArg (fun t => tget t p) h

/-- Of the timelines a boundary advances its own alone. -/
theorem State.boundary_timeline (s : State) (u v : TimelineId) :
    (s.boundary u).notify.timeline v = if v = u then (s.timeline u).boundary else s.timeline v := by
  have ha : (s.boundary u).notify.timelineA = (s.setTimeline u (s.timeline u).boundary).timelineA := by
    rw [State.notify_timelineA, State.boundary_only]
  have hb : (s.boundary u).notify.timelineB = (s.setTimeline u (s.timeline u).boundary).timelineB := by
    rw [State.notify_timelineB, State.boundary_only]
  rw [← State.setTimeline_timeline s u v]
  cases v
  · exact ha
  · exact hb

theorem State.boundary_feed (s : State) (u : TimelineId) (f : FeedId) :
    (s.boundary u).notify.feed f = (s.afterRoutes u).feed f := by
  have h : (s.boundary u).notify.feeds = (s.afterRoutes u).feeds := by rw [State.notify_feeds, State.boundary_only]
  exact congrArg (fun t => tget t f) h

/-- A record after a boundary: its own turn's, with the picture and the last dominant number of its port's turn. -/
theorem State.boundary_record (s : State) (u : TimelineId) (i : RouteId) :
    (s.boundary u).notify.route i =
      { s.turned u (s.timeline u).nextParity i with
        picture := ((s.boundary u).notify.route i).picture
        lastDominant := ((s.boundary u).notify.route i).lastDominant } := by
  rw [State.boundary_route, ← State.afterRoutes_route]
  exact State.routeShown_frame _ _ _ _

/-- The ports leave a record that is not live as it was. -/
theorem State.boundary_record_of_not_live (s : State) (u : TimelineId) (i : RouteId)
    (h : (s.turned u (s.timeline u).nextParity i).state.live = false) :
    (s.boundary u).notify.route i = s.turned u (s.timeline u).nextParity i := by
  rw [← State.afterRoutes_route] at h
  rw [State.boundary_route, ← State.afterRoutes_route]
  refine if_neg fun ⟨_, hon⟩ => ?_
  rw [(State.routeOnPort_port hon).1] at h
  exact absurd h (by decide)

theorem State.boundary_record_of_off (s : State) (u : TimelineId) (i : RouteId)
    (h : s.portTimeline (s.route i).port ≠ u) : (s.boundary u).notify.route i = s.route i := by
  have hturned : s.turned u (s.timeline u).nextParity i = s.route i := if_neg h
  have hafter : (s.afterRoutes u).route i = s.route i := (s.afterRoutes_route u i).trans hturned
  rw [State.boundary_route, State.routeShown, hafter, State.afterRoutes_portTimeline]
  exact if_neg fun hline => h hline.1

/-! ## The other records (R62 to R64, R71, R90) -/

theorem Route.afterLapse_retired (r : Route) (l : Nat) (h : r.setting.retireLimit = some l)
    (hl : l ≤ min 65535 (r.lapse + 1)) : r.afterLapse = (r.advanceLapse.endLife .free).vacate := by
  refine if_pos ?_
  have hlimit : r.advanceLapse.setting.retireLimit = some l := h
  rw [Route.retireDue, hlimit]
  exact decide_eq_true hl

theorem Route.afterLapse_kept (r : Route) (h : ∀ l, r.setting.retireLimit = some l → min 65535 (r.lapse + 1) < l) :
    r.afterLapse = if r.advanceLapse.lapseDue then r.advanceLapse.enterLapsed else r.advanceLapse := by
  refine if_neg ?_
  have hlimit : r.advanceLapse.setting.retireLimit = r.setting.retireLimit := rfl
  rw [Route.retireDue, hlimit]
  cases hr : r.setting.retireLimit with
  | none => exact Bool.false_ne_true
  | some l => exact fun hle => absurd (of_decide_eq_true hle) (Nat.not_le.2 (h l hr))

theorem Route.lapseDue_iff (r : Route) :
    r.advanceLapse.lapseDue = true ↔
      r.state = .starved ∧ r.setting.holdLimit ≠ 0 ∧ r.setting.holdLimit ≤ min 65535 (r.lapse + 1) := by
  rw [Route.lapseDue, Bool.and_eq_true, Bool.and_eq_true, beq_iff_eq, decide_eq_true_iff, decide_eq_true_iff, and_assoc]
  rfl

theorem State.turned_on (s : State) (u : TimelineId) (parity : Parity) (i : RouteId)
    (h : s.portTimeline (s.route i).port = u) :
    s.turned u parity i =
      (s.route i).boundary (s.feed (s.route i).feed).period (s.profile (s.route i).setting.profile) parity := if_pos h

theorem State.turned_of_lapse (s : State) (u : TimelineId) (parity : Parity) (i : RouteId)
    (h : s.portTimeline (s.route i).port = u) (hstate : (s.route i).state = .starved ∨ (s.route i).state = .lapsed) :
    s.turned u parity i = (s.route i).afterLapse := by
  rw [State.turned_on s u parity i h]
  rcases hstate with hs | hs <;> simp only [Route.boundary, hs]

/-- The device scope after a boundary: the retirements of its records, then the summary. -/
theorem State.boundary_device (s : State) (u : TimelineId) :
    (s.boundary u).device = s.device.retiring (s.retiredAt u) (List.finRange 16) := by
  have h : (s.boundary u).device = (s.afterRoutes u).device := by rw [State.boundary_only]
  rw [h, State.afterRoutes_device]

theorem State.boundary_retires (s : State) (u : TimelineId) (i : RouteId) (h : s.retiredAt u i = true) :
    (s.boundary u).notify.device.retired.getLsbD i.val = true ∧
      (s.boundary u).notify.device.events.getLsbD 4 = true := by
  obtain ⟨hframe, hbits⟩ := Device.retiring_spec (s.retiredAt u) (List.finRange 16) s.device
  refine ⟨?_, ?_⟩
  · rw [State.notify_retired, State.boundary_device, hbits, h]
    simp
  · have hany : (List.finRange 16).any (s.retiredAt u) = true := List.any_eq_true.2 ⟨i, List.mem_finRange i, h⟩
    rw [State.notify_events, State.boundary_device, hframe, hany]
    simp

theorem Route.retires_iff (r : Route) :
    r.retires = true ↔ (r.state = .starved ∨ r.state = .lapsed) ∧
      ∃ l, r.setting.retireLimit = some l ∧ l ≤ min 65535 (r.lapse + 1) := by
  simp [Route.retires, Route.retireDue, Route.advanceLapse, sat16, Option.any_eq_true]

theorem State.retiredAt_iff (s : State) (u : TimelineId) (i : RouteId) :
    s.retiredAt u i = true ↔ (s.port (s.route i).port).timeline = u ∧
      ((s.route i).state = .starved ∨ (s.route i).state = .lapsed) ∧
        ∃ l, (s.route i).setting.retireLimit = some l ∧ l ≤ min 65535 ((s.route i).lapse + 1) := by
  rw [State.retiredAt, Bool.and_eq_true, decide_eq_true_iff, Route.retires_iff]
  rfl

/-- Settles O33: each record by its own turn (`State.boundary_record`); one that is FREE after it is left by the
ports. -/
theorem boundaryMovesTheRoutes : Obligations.BoundaryMovesTheRoutes := by
  intro s u hrun
  refine ⟨_, exec_outputBoundary s u hrun, fun i hi => ?_, fun i hon => ⟨fun hi => ?_, fun φ hheld hlen hφ => ?_,
    fun hclosing => ?_, fun lapse hstate hlapse => ⟨?_, fun hkept => ⟨fun hstarved hne hle => ?_, fun hnot => ?_⟩⟩⟩⟩
  · by_cases hon : s.portTimeline (s.route i).port = u
    · have hfree : (s.route i).state = .free := hi.resolve_left fun h => h hon
      have hturned : s.turned u (s.timeline u).nextParity i = s.route i := by
        rw [State.turned_on s u _ i hon, Route.boundary, hfree]
      rw [State.boundary_record_of_not_live s u i (by rw [hturned, hfree]; rfl), hturned]
    · exact State.boundary_record_of_off s u i hon
  · have hturned : s.turned u (s.timeline u).nextParity i = s.route i := by
      rw [State.turned_on s u _ i hon, Route.boundary]
      rcases hi with hp | ⟨hh, hlen⟩
      · rw [hp]
      · rw [hh]
        exact if_neg (by omega)
    have h := State.boundary_record s u i
    rwa [hturned] at h
  · have hturned : s.turned u (s.timeline u).nextParity i =
        { s.route i with phase := φ, error := 65536 + 1310 * (s.route i).setting.trim - φ } := by
      rw [State.turned_on s u _ i hon, Route.boundary, hheld]
      dsimp only
      rw [if_pos hlen, Route.stepPhase, Route.nextPhase, clampPhase_eq _ _ hlen, hφ]
      rfl
    have h := State.boundary_record s u i
    rwa [hturned] at h
  · have hturned : s.turned u (s.timeline u).nextParity i = (s.route i).vacate := by
      rw [State.turned_on s u _ i hon, Route.boundary, hclosing]
    rw [State.boundary_record_of_not_live s u i (by rw [hturned]; rfl), hturned]
    rfl
  · rintro ⟨l, hl, hle⟩
    have hturned := State.turned_of_lapse s u (s.timeline u).nextParity i hon hstate
    rw [Route.afterLapse_retired _ l hl (hlapse ▸ hle)] at hturned
    refine ⟨?_, State.boundary_retires s u i ((State.retiredAt_iff s u i).2 ⟨hon, hstate, l, hl, hlapse ▸ hle⟩)⟩
    rw [State.boundary_record_of_not_live s u i (by rw [hturned]; rfl), hturned, hlapse]
    rfl
  · have hturned := State.turned_of_lapse s u (s.timeline u).nextParity i hon hstate
    have hdue := (s.route i).lapseDue_iff.2 ⟨hstarved, hne, hlapse ▸ hle⟩
    rw [Route.afterLapse_kept _ (hlapse ▸ hkept), if_pos hdue] at hturned
    have h := State.boundary_record s u i
    rw [hturned] at h
    rw [hlapse]
    exact h
  · have hturned := State.turned_of_lapse s u (s.timeline u).nextParity i hon hstate
    have hdue : ¬(s.route i).advanceLapse.lapseDue = true := by
      rw [Route.lapseDue_iff, ← hlapse]
      rintro ⟨hstarved, hne, hle⟩
      rcases hnot with h | h | h
      · rw [h] at hstarved
        exact absurd hstarved (by decide)
      · exact hne h
      · omega
    rw [Route.afterLapse_kept _ (hlapse ▸ hkept), if_neg hdue] at hturned
    have h := State.boundary_record s u i
    rw [hturned] at h
    rw [hlapse]
    exact h

/-! ## The timeline (R10, R11) -/

theorem State.boundary_frame (s : State) (u : TimelineId) :
    s.boundary u =
      { s with
        timelineA := (s.boundary u).timelineA, timelineB := (s.boundary u).timelineB, routes := (s.boundary u).routes
        slots := (s.boundary u).slots, feeds := (s.boundary u).feeds, ports := (s.boundary u).ports
        monitor := (s.boundary u).monitor, device := (s.boundary u).device } := by
  rw [State.boundary_only, State.setTimeline_only]

/-- Settles O32: of the blocks of a boundary each one's frame, the retirements being the records'
(`State.retiredAt`). -/
theorem boundaryAdvancesTheTimeline : Obligations.BoundaryAdvancesTheTimeline := by
  intro s u
  refine ⟨fun hstopped => ?_, fun hrun => ⟨_, exec_outputBoundary s u hrun, ?_, ?_, ?_, fun f => ?_, fun k => ?_,
    fun gone hgone => ?_, State.notify_summaryOk _⟩⟩
  · refine congrArg Host.Outcome.next (if_neg ?_)
    rw [hstopped]
    decide
  · have h := s.boundary_frame u
    generalize s.boundary u = t at h ⊢
    rw [h]
    rfl
  · intro v hv
    rw [State.boundary_timeline, if_neg hv]
  · rw [State.boundary_timeline, if_pos rfl]
    rfl
  · have hset : (s.setTimeline u (s.timeline u).boundary).feed f = s.feed f := by cases u <;> rfl
    rw [State.boundary_feed, ← hset]
    exact State.routesBoundary_feed _ _ _ _
  · have hports : (s.afterPorts u).slots = (s.afterRoutes u).slots := by rw [State.afterPorts_only]
    have h := State.monitorBoundary_keepsRecords (s.afterPorts u) u (s.timeline u).nextParity
      (some (s.timeline u).nextTimecode)
    have hslots : (s.boundary u).notify.slots = ((s.afterPorts u).monitorBoundary u (s.timeline u).nextParity
        (some (s.timeline u).nextTimecode)).slots := by rw [State.notify_slots, State.boundary_eq]
    rw [hports, ← hslots] at h
    exact (s.afterRoutes_keepsRecords u).trans h k
  · have hsame : gone = s.retiredAt u := funext fun i => by
      rw [Bool.eq_iff_iff, hgone, State.retiredAt_iff]
    obtain ⟨hframe, hbits⟩ := Device.retiring_spec (s.retiredAt u) (List.finRange 16) s.device
    rw [← State.boundary_device] at hframe hbits
    rw [hsame]
    refine ⟨?_, fun i => ?_⟩
    · unfold State.notify
      dsimp only
      rw [hframe]
    · rw [State.notify_retired, hbits]
      simp

end Sys2Proof.Machine

/-! What a boundary makes the ports and the monitor carry (R121, R122, R143), and what it makes of a RUNNING route
(R81 to R88). -/

namespace Sys2Proof.Machine

/-! ## A record and its port -/

theorem Route.shown_black (r : Route) (mute : Bool) (slots : SlotTable) (parity : Parity)
    (h : routeContent (some r) = .black ∨ r.dominantSlot = none) :
    r.shown mute slots parity = { r with picture := r.contentPicture .black parity } := by
  unfold Route.shown
  rcases h with h | h
  · rw [h]
  · rw [h]
    cases routeContent (some r) <;> rfl

theorem Port.showing_black (a : Port) (r : Route) (slots : SlotTable) (house : Option Timecode)
    (h : routeContent (some r) = .black ∨ r.dominantSlot = none) : a.showing r slots house = a.carryBlack house := by
  unfold Port.showing
  rcases h with h | h
  · rw [h]
  · rw [h]
    cases routeContent (some r) <;> rfl

theorem Route.shown_some (r : Route) (mute : Bool) (slots : SlotTable) (parity : Parity) (d : SlotId)
    (h : routeContent (some r) ≠ .black) (hd : r.dominantSlot = some d) :
    r.shown mute slots parity =
      { r with
        picture := r.contentPicture (carriedContent mute (routeContent (some r))) parity
        lastDominant := some (tget slots d).seq } := by
  unfold Route.shown
  rw [hd]
  cases hc : routeContent (some r)
  · exact absurd hc h
  · rfl
  · rfl

theorem Port.showing_some (a : Port) (r : Route) (slots : SlotTable) (house : Option Timecode) (d : SlotId)
    (h : routeContent (some r) ≠ .black) (hd : r.dominantSlot = some d) :
    a.showing r slots house =
      if a.mute then a.carryBlack house
      else a.carry (routeContent (some r))
        (outputList r.setting (r.newPicture (tget slots d).seq) (tget slots d).packets)
        (chosenTimecode r.setting.timecode (tget slots d) house) := by
  unfold Port.showing carriedContent
  rw [hd]
  cases hc : routeContent (some r)
  · exact absurd hc h
  · cases a.mute <;> rfl
  · cases a.mute <;> rfl

/-- A live record that is not LAPSED and has a pair is not black: LIVE while RUNNING, HOLD otherwise (R121). -/
theorem routeContent_of_pair (r : Route) (pair : OutputPair) (hlive : r.state.live = true) (hlapsed : r.state ≠ .lapsed)
    (hpair : r.pair = some pair) : routeContent (some r) = if r.state = .running then .live else .hold := by
  unfold routeContent
  cases hs : r.state <;> rw [hs] at hlive hlapsed <;> simp_all [RouteState.live]

theorem routeContent_of_lapsed (r : Route) (h : r.state = .lapsed) : routeContent (some r) = .black := by
  simp only [routeContent, h]

theorem Route.dominantSlot_of_pair (r : Route) (pair : OutputPair) (d : SlotId) (hpair : r.pair = some pair)
    (hd : pair.slots = .onlyA d ∨ pair.slots = .onlyB d ∨
      ∃ a b, pair.slots = .both a b ∧ d = if pair.weight < 32 then a else b) : r.dominantSlot = some d := by
  rw [Route.dominantSlot, hpair, Option.map_some]
  rcases hd with h | h | ⟨a, b, h, rfl⟩ <;> rw [h] <;> rfl

/-! ## What a record's turn keeps -/

/-- What neither a record's own turn nor its port's moves, and that the turn makes no record live. -/
structure Route.KeepsPlace (r q : Route) : Prop where
  port         : q.port = r.port
  setting      : q.setting = r.setting
  outStandard  : q.outStandard = r.outStandard
  lastDominant : q.lastDominant = r.lastDominant
  live         : q.state.live = true → r.state.live = true

theorem Route.KeepsPlace.refl (r : Route) : r.KeepsPlace r := ⟨rfl, rfl, rfl, rfl, id⟩

theorem Route.afterLapse_keepsPlace (r : Route) (h : r.state.live = true) : r.KeepsPlace r.afterLapse := by
  unfold Route.afterLapse
  split
  · exact ⟨rfl, rfl, rfl, rfl, fun _ => h⟩
  · split
    · exact ⟨rfl, rfl, rfl, rfl, fun _ => h⟩
    · exact ⟨rfl, rfl, rfl, rfl, id⟩

theorem Route.boundary_keepsPlace (r : Route) (period : Nat) (profile : Profile) (parity : Parity) :
    r.KeepsPlace (r.boundary period profile parity) := by
  unfold Route.boundary
  cases hs : r.state <;> dsimp only
  case running =>
    rw [Route.runBoundary_frame]
    exact ⟨rfl, rfl, rfl, rfl, id⟩
  case held =>
    split
    · exact ⟨rfl, rfl, rfl, rfl, id⟩
    · exact .refl r
  case starved => exact Route.afterLapse_keepsPlace r (by rw [hs]; rfl)
  case lapsed => exact Route.afterLapse_keepsPlace r (by rw [hs]; rfl)
  case closing => exact ⟨rfl, rfl, rfl, rfl, fun h => absurd h Bool.false_ne_true⟩
  case priming => exact .refl r
  case free => exact .refl r

theorem State.afterRoutes_keepsPlace (s : State) (u : TimelineId) (i : RouteId) :
    (s.route i).KeepsPlace ((s.afterRoutes u).route i) := by
  rw [State.afterRoutes_route, State.turned]
  split
  · exact Route.boundary_keepsPlace _ _ _ _
  · exact .refl _

/-! ## The ports (R121, R122, R126) -/

/-- With one live record a port, the one that names it is the one found on it. -/
theorem State.afterRoutes_routeOnPort (s : State) (u : TimelineId) (i : RouteId) (hcounts : s.CountsOk)
    (hlive : ((s.afterRoutes u).route i).state.live = true) :
    (s.afterRoutes u).routeOnPort ((s.afterRoutes u).route i).port = some i := by
  have hon : ((s.afterRoutes u).route i).liveOn ((s.afterRoutes u).route i).port = true := by
    rw [Route.liveOn, hlive, beq_self_eq_true]
    rfl
  cases h : (s.afterRoutes u).routeOnPort ((s.afterRoutes u).route i).port with
  | none => exact absurd hon (by simpa using List.find?_eq_none.1 h i (List.mem_finRange i))
  | some j =>
    obtain ⟨hj, hport⟩ := State.routeOnPort_port h
    have hi := s.afterRoutes_keepsPlace u i
    have hj' := s.afterRoutes_keepsPlace u j
    rw [hi.port, hj'.port] at hport
    rw [hcounts.ports j i (hj'.live hj) (hi.live hlive) hport]

theorem State.afterRoutes_begunPort (s : State) (u : TimelineId) (p : PortId) (hp : (s.port p).timeline = u) :
    (s.afterRoutes u).begunPort p = { s.port p with standard := (s.timeline u).standard } := by
  have hstandard : (s.afterRoutes u).portStandard p = (s.timeline u).standard := by
    rw [State.portStandard, State.afterRoutes_portTimeline, State.afterRoutes_timeline,
      show s.portTimeline p = u from hp, if_pos rfl]
    rfl
  rw [State.begunPort, hstandard, State.afterRoutes_port]

/-- A port on the timeline after a boundary. -/
theorem State.boundary_port_on (s : State) (u : TimelineId) (p : PortId) (hp : (s.port p).timeline = u) :
    (s.boundary u).notify.port p =
      ({ s.port p with standard := (s.timeline u).standard } : Port).showingAny
        (((s.afterRoutes u).routeOnPort p).map (s.afterRoutes u).route) (s.afterRoutes u).slots
        (some (s.timeline u).nextTimecode) := by
  rw [State.boundary_port, State.afterPorts_port, State.portShown, State.afterRoutes_portTimeline,
    if_pos (show s.portTimeline p = u from hp), State.afterRoutes_begunPort s u p hp]

theorem State.boundary_route_shown (s : State) (u : TimelineId) (i : RouteId) (hcounts : s.CountsOk)
    (hlive : ((s.afterRoutes u).route i).state.live = true)
    (hp : (s.port ((s.afterRoutes u).route i).port).timeline = u) :
    (s.boundary u).notify.route i =
      ((s.afterRoutes u).route i).shown (s.port ((s.afterRoutes u).route i).port).mute (s.afterRoutes u).slots
        (s.timeline u).nextParity := by
  rw [State.boundary_route, State.routeShown, State.afterRoutes_portTimeline,
    State.afterRoutes_routeOnPort s u i hcounts hlive, State.afterRoutes_port]
  exact if_pos ⟨hp, rfl⟩

theorem State.boundary_route_state (s : State) (u : TimelineId) (i : RouteId) :
    ((s.boundary u).notify.route i).state = ((s.afterRoutes u).route i).state := by
  rw [State.boundary_route, State.routeShown_frame]

theorem State.boundary_route_pair (s : State) (u : TimelineId) (i : RouteId) :
    ((s.boundary u).notify.route i).pair = ((s.afterRoutes u).route i).pair := by
  rw [State.boundary_route, State.routeShown_frame]

theorem State.boundary_route_port (s : State) (u : TimelineId) (i : RouteId) :
    ((s.boundary u).notify.route i).port = ((s.afterRoutes u).route i).port := by
  rw [State.boundary_route, State.routeShown_frame]

/-- Settles O35: the port by `Port.showing`, the record on it by `Route.shown`, each as its content and pair say. -/
theorem boundaryDecidesThePorts : Obligations.BoundaryDecidesThePorts := by
  intro s u st house hrun hcounts hst hhouse
  subst hst hhouse
  refine ⟨_, exec_outputBoundary s u hrun, fun p hp => ?_, fun p hp => ⟨fun hnone => ?_, fun i hlive hport => ?_⟩⟩
  · rw [State.boundary_port, State.afterPorts_port, State.portShown, State.afterRoutes_portTimeline,
      if_neg (show s.portTimeline p ≠ u from hp), State.afterRoutes_port]
  · have hfind : (s.afterRoutes u).routeOnPort p = none := by
      cases h : (s.afterRoutes u).routeOnPort p with
      | none => rfl
      | some i =>
        obtain ⟨hlive, hport⟩ := State.routeOnPort_port h
        refine absurd ⟨?_, ?_⟩ (hnone i)
        · rw [State.boundary_route_state]; exact hlive
        · rw [State.boundary_route_port]; exact hport
    rw [State.boundary_port_on s u p hp, hfind]
    rfl
  · have hporti : ((s.afterRoutes u).route i).port = p := (s.boundary_route_port u i).symm.trans hport
    rw [State.boundary_route_state] at hlive
    have hplace := s.afterRoutes_keepsPlace u i
    have hshown := s.boundary_route_shown u i hcounts hlive (by rw [hporti]; exact hp)
    have hfind := s.afterRoutes_routeOnPort u i hcounts hlive
    have hkept := s.afterRoutes_keepsRecords u
    rw [hporti] at hshown hfind
    have hcarried := State.boundary_port_on s u p hp
    rw [hfind, Option.map_some] at hcarried
    rw [State.boundary_route_state, State.boundary_route_pair]
    generalize (s.afterRoutes u).route i = q at *
    generalize (s.afterRoutes u).slots = slots at *
    refine ⟨fun hblack => ?_, fun pair d hlapsed hsome hd => ?_⟩
    · have hcontent : routeContent (some q) = .black ∨ q.dominantSlot = none :=
        hblack.imp (routeContent_of_lapsed q) fun h => by rw [Route.dominantSlot, h]; rfl
      rw [Route.shown_black _ _ _ _ hcontent] at hshown
      refine ⟨hcarried.trans (Port.showing_black _ _ _ _ hcontent), ?_, fun hne => ?_⟩
      · rw [hshown]
        exact hplace.lastDominant
      · rw [hshown]
        exact if_neg hne
    · have hlive' := routeContent_of_pair q pair hlive hlapsed hsome
      have hcontent : routeContent (some q) ≠ .black := by
        rw [hlive']
        split <;> decide
      have hdom := q.dominantSlot_of_pair pair d hsome hd
      have hseq : (tget slots d).seq = (s.slot d).seq := by rw [hkept d]; rfl
      have hpackets : (tget slots d).packets = (s.slot d).packets := by rw [hkept d]; rfl
      have htime : (tget slots d).timecode = (s.slot d).timecode := by rw [hkept d]; rfl
      rw [Route.shown_some _ _ _ _ d hcontent hdom] at hshown
      refine ⟨?_, fun hne => ?_, ?_⟩
      · rw [hshown, ← hseq]
      · rw [hshown, hlive', if_neg hne, ← hplace.outStandard]
        dsimp only
        cases (s.port p).mute
        · show q.contentPicture .hold _ = _
          rw [Route.contentPicture, hsome]
          rfl
        · exact if_neg hne
      · refine hcarried.trans ((Port.showing_some _ _ _ _ d hcontent hdom).trans ?_)
        rw [hseq, hpackets, hlive', hplace.setting, Route.newPicture, hplace.lastDominant]
        generalize (s.route i).setting.timecode = mode
        cases mode
        · rfl
        · rw [show chosenTimecode .source (tget slots d) (some (s.timeline u).nextTimecode) = (s.slot d).timecode
            from htime]
          rfl
        · rfl

/-! ## The monitor (R143, R145, R146) -/

theorem State.afterPorts_monitor (s : State) (u : TimelineId) : (s.afterPorts u).monitor = s.monitor := by
  rw [← s.afterRoutes_monitor u, State.afterPorts_only]

theorem State.afterPorts_slots (s : State) (u : TimelineId) : (s.afterPorts u).slots = (s.afterRoutes u).slots := by
  rw [State.afterPorts_only]

theorem State.portShown_timeline (s : State) (t : TimelineId) (house : Option Timecode) (p : PortId) :
    (s.portShown t house p).timeline = s.portTimeline p := by
  unfold State.portShown
  split
  · rw [State.begunPort_showingAny_frame]
    rfl
  · rfl

theorem State.afterPorts_portTimeline (s : State) (u : TimelineId) (p : PortId) :
    (s.afterPorts u).portTimeline p = s.portTimeline p := by
  rw [State.portTimeline, State.afterPorts_port, State.portShown_timeline, State.afterRoutes_portTimeline]

theorem State.afterPorts_standard (s : State) (u : TimelineId) :
    ((s.afterPorts u).timeline u).standard = (s.timeline u).standard := by
  have h : (s.afterPorts u).timeline u = (s.afterRoutes u).timeline u := by
    have ha : (s.afterPorts u).timelineA = (s.afterRoutes u).timelineA := by rw [State.afterPorts_only]
    have hb : (s.afterPorts u).timelineB = (s.afterRoutes u).timelineB := by rw [State.afterPorts_only]
    cases u
    · exact ha
    · exact hb
  rw [h, State.afterRoutes_timeline, if_pos rfl]
  rfl

theorem State.afterPorts_monitorTimeline (s : State) (u : TimelineId) :
    (s.afterPorts u).monitorTimeline = s.monitorTimeline := by
  unfold State.monitorTimeline
  rw [State.afterPorts_monitor]
  cases s.monitor.view
  · rfl
  · exact s.afterPorts_portTimeline u _
  · rfl

theorem State.boundary_monitor (s : State) (u : TimelineId) :
    (s.boundary u).notify.monitor =
      ((s.afterPorts u).monitorBoundary u (s.timeline u).nextParity (some (s.timeline u).nextTimecode)).monitor := by
  rw [State.notify_monitor, State.boundary_eq]

theorem State.boundary_monitor_off (s : State) (u : TimelineId) (h : s.monitorTimeline ≠ u) :
    (s.boundary u).notify.monitor = s.monitor := by
  rw [State.boundary_monitor, State.monitorBoundary, State.afterPorts_monitorTimeline, if_neg h,
    State.afterPorts_monitor]

theorem State.boundary_monitor_on (s : State) (u : TimelineId) (h : s.monitorTimeline = u) :
    (s.boundary u).notify.monitor =
      (((s.afterPorts u).beginMonitorInterval (s.timeline u).standard).monitorContent (s.timeline u).standard
        (s.timeline u).nextParity (some (s.timeline u).nextTimecode)).monitor := by
  rw [State.boundary_monitor, State.monitorBoundary, State.afterPorts_monitorTimeline, if_pos h,
    State.afterPorts_standard]

theorem State.beginMonitorInterval_port (s : State) (st : Standard) (p : PortId) :
    (s.beginMonitorInterval st).port p = s.port p := rfl

theorem State.beginMonitorInterval_slot (s : State) (st : Standard) (k : SlotId) :
    (s.beginMonitorInterval st).slot k = s.slot k := rfl

/-- Settles O36: by the view, the monitor's block reading the slots as they stood but for their states and counts. -/
theorem boundaryDecidesTheMonitor : Obligations.BoundaryDecidesTheMonitor := by
  intro s u hrun
  have hview : ((s.afterPorts u).beginMonitorInterval (s.timeline u).standard).monitor =
      { s.monitor with standard := (s.timeline u).standard } := by
    rw [State.beginMonitorInterval, State.afterPorts_monitor]
  have hslots := s.afterRoutes_keepsRecords u
  rw [← s.afterPorts_slots u] at hslots
  have hon := s.boundary_monitor_on u
  have hport : ∀ p, (s.boundary u).notify.port p = (s.afterPorts u).port p := s.boundary_port u
  have hoff := s.boundary_monitor_off u
  refine ⟨_, exec_outputBoundary s u hrun, fun h => hoff ?_, fun h hu => ?_, fun p h hp => ?_, fun f h => ?_⟩
  · rcases h with ⟨h, rfl⟩ | ⟨p, h, hp⟩ | ⟨f, v, h, hv⟩ <;> rw [State.monitorTimeline, h]
    · show TimelineId.a ≠ TimelineId.b
      decide
    · exact hp
    · exact hv
  · rw [hon (by rw [State.monitorTimeline, h, hu]), State.monitorContent, hview]
    dsimp only
    rw [h]
    dsimp only [Monitor.carryBlack]
  · rw [hon (by rw [State.monitorTimeline, h]; exact hp), State.monitorContent, hview]
    dsimp only
    rw [h]
    dsimp only [State.monitorCopyBoundary]
    rw [hview, hport, State.beginMonitorInterval_port]
    dsimp only
    rw [h]
  · rw [hon (by rw [State.monitorTimeline, h]), State.monitorContent, hview]
    dsimp only
    rw [h]
    dsimp only [State.monitorFeedBoundary]
    have hlatest : ((s.afterPorts u).beginMonitorInterval (s.timeline u).standard).showableLatest
        (s.timeline u).standard = s.monitor.latest.filter
          (fun i => decide ((s.slot i).standard.map Standard.family = some (s.timeline u).standard.family)) := by
      have hstandard : ∀ i, (((s.afterPorts u).beginMonitorInterval (s.timeline u).standard).slot i).standard =
          (s.slot i).standard := fun i => by
        rw [State.beginMonitorInterval_slot, State.slot, hslots i]
        rfl
      rw [State.showableLatest, hview]
      simp only [hstandard]
    rw [hlatest]
    refine ⟨fun i st hi hst hfamily => ?_, fun hnone => ?_⟩
    · have hpass : s.monitor.latest.filter (fun i => decide ((s.slot i).standard.map Standard.family =
          some (s.timeline u).standard.family)) = some i := by
        rw [hi, Option.filter_some, hst]
        simp [hfamily]
      have hpackets : (((s.afterPorts u).beginMonitorInterval (s.timeline u).standard).slot i).packets =
          (s.slot i).packets := by
        rw [State.beginMonitorInterval_slot, State.slot, hslots i]
        rfl
      have htime : (((s.afterPorts u).beginMonitorInterval (s.timeline u).standard).slot i).timecode =
          (s.slot i).timecode := by
        rw [State.beginMonitorInterval_slot, State.slot, hslots i]
        rfl
      rw [hpass]
      dsimp only
      rw [hview, hpackets, htime]
      dsimp only
      rw [h]
      rfl
    · have hfail : s.monitor.latest.filter (fun i => decide ((s.slot i).standard.map Standard.family =
          some (s.timeline u).standard.family)) = none := by
        rcases hnone with h | ⟨i, h, hne⟩
        · rw [h]; rfl
        · rw [h, Option.filter_some]
          cases hs : (s.slot i).standard with
          | none => rfl
          | some st => simp [hne st hs]
      rw [hfail]
      dsimp only
      rw [hview]
      dsimp only [Monitor.carryBlack]
      rw [h]

end Sys2Proof.Machine

/-! What a boundary makes of a RUNNING route (R81 to R88, R105, R138 to R140). -/

namespace Sys2Proof.Machine

/-! ## The clamp counted (R84) -/

/-- The counters and the pending events after a step whose unclamped phase was `x` (R84). -/
theorem Route.countClamp_clampOf (r : Route) (n : Nat) (x : Int) (hn : 2 ≤ n) :
    r.countClamp (clampOf n x) =
      { r with
        counters := { r.counters with
          early := if r.settled ∧ x < 0 then min 65535 (r.counters.early + 1) else r.counters.early
          late := if r.settled ∧ 65536 * ((n : Int) - 1) - 1 < x then min 65535 (r.counters.late + 1)
            else r.counters.late }
        events := r.events ||| (if r.settled ∧ x < 0 then 0x02 else 0) |||
          (if r.settled ∧ 65536 * ((n : Int) - 1) - 1 < x then 0x01 else 0) } := by
  unfold Route.countClamp
  cases hs : r.settled
  · simp
    rw [← hs]
  · unfold clampOf ceiling
    by_cases hlow : x < 0
    · have hhigh : ¬65536 * ((n : Int) - 1) - 1 < x := by omega
      simp [hlow, hhigh, Route.raise, RouteEvent.mask, sat16]
    · by_cases hhigh : 65536 * ((n : Int) - 1) - 1 < x
      · simp [hlow, hhigh, Route.raise, RouteEvent.mask, sat16]
      · simp [hlow, hhigh, ← hs]

/-! ## The check (R138 to R140) -/

theorem Route.check_none (r : Route) (number : BitVec 32) (step : Nat) (h : r.checker = none) :
    r.check number step = r := by
  unfold Route.check
  rw [h]

theorem Route.check_first (r : Route) (number : BitVec 32) (step : Nat) (part : CheckerPart)
    (h : r.checker = some part) (hprev : part.previous = none) :
    r.check number step = { r with checker := some { part with previous := some number } } := by
  unfold Route.check
  rw [h]
  dsimp only
  rw [hprev]

theorem Route.check_next (r : Route) (number prev : BitVec 32) (step : Nat) (part : CheckerPart) (ok : Bool)
    (h : r.checker = some part) (hprev : part.previous = some prev)
    (hok : ok = decide ((number - prev).toNat ≤ (step + 65535) / 65536 + 1)) :
    r.check number step =
      { r with
        checker := some { (part.apply ok).1 with previous := some number }
        counters := { r.counters with
          continuityErrors := if ok then r.counters.continuityErrors else min 65535 (r.counters.continuityErrors + 1) }
        events := if (part.apply ok).2 then r.events ||| 0x80 else r.events } := by
  unfold Route.check
  rw [h]
  dsimp only
  rw [hprev, hok]
  dsimp only
  unfold Route.raiseIf checkLimit
  generalize decide ((number - prev).toNat ≤ (step + 65535) / 65536 + 1) = b
  cases b <;> cases (part.apply _).2 <;> rfl

theorem CheckerPart.apply_hunt_ok (part : CheckerPart) (h : part.state = .hunt) :
    part.apply true =
      if part.run + 1 = 8 then ({ part with state := .sync, run := 8, results := [] }, true)
      else ({ part with run := part.run + 1 }, false) := by
  unfold CheckerPart.apply
  rw [h]
  rfl

theorem CheckerPart.apply_hunt_bad (part : CheckerPart) (h : part.state = .hunt) :
    part.apply false = ({ part with run := 0 }, false) := by
  unfold CheckerPart.apply
  rw [h]
  rfl

theorem CheckerPart.apply_sync (part : CheckerPart) (ok : Bool) (h : part.state = .sync) :
    part.apply ok =
      if 12 < (appendResult part.results ok).count false then
        ({ part with state := .hunt, run := 0, results := [] }, true)
      else ({ part with results := appendResult part.results ok }, false) := by
  unfold CheckerPart.apply
  rw [h]

/-! ## The step (R81 to R88, R105) -/

theorem Route.baseStep_eq (r : Route) (e step : Nat)
    (h : (r.lock = none ∧ step = (16777216 * r.outStandard.nominal + e / 2) / e) ∨
      ∃ l len d, r.lock = some l ∧
        (l.pattern, len, d) ∈ [(Pattern.f23, 5, 4), (Pattern.p23, 5, 2), (Pattern.p22, 2, 1)] ∧
        step = (16777216 * r.outStandard.nominal * d + e * len / 2) / (e * len)) : r.baseStep e = step := by
  unfold Route.baseStep
  rcases h with ⟨hlock, rfl⟩ | ⟨l, len, d, hlock, hmem, rfl⟩
  · rw [hlock, plainStep]
  · rw [hlock]
    simp only [List.mem_cons, Prod.mk.injEq, List.not_mem_nil, or_false] at hmem
    rcases hmem with ⟨h, rfl, rfl⟩ | ⟨h, rfl, rfl⟩ | ⟨h, rfl, rfl⟩ <;> dsimp only <;> rw [h] <;> rfl

theorem snapshotOf_eq (w : Nat) (a b : WindowEntry) :
    snapshotOf w a b = { seqA := a.seq, seqB := b.seq, weight := w, dominant := if w < 32 then a.seq else b.seq } := by
  unfold snapshotOf dominantEntry
  split <;> rfl

/-- A clamped phase of a window of at least two entries has its two positions in the window (R85). -/
theorem Route.positions_of_clamped (r : Route) (φ : Int) (h2 : 2 ≤ r.window.length)
    (hφ : φ ≤ 65536 * ((r.window.length : Int) - 1) - 1) :
    ∃ a b, r.positions φ = some (a, b) ∧ r.window[positionA φ]? = some a ∧ r.window[positionA φ + 1]? = some b := by
  have hb : positionA φ + 1 < r.window.length := by unfold positionA; omega
  have ha : positionA φ < r.window.length := by omega
  refine ⟨r.window[positionA φ], r.window[positionA φ + 1], ?_, List.getElem?_eq_getElem ha,
    List.getElem?_eq_getElem hb⟩
  exact (r.positions_eq_some φ _ _).2 ⟨List.getElem?_eq_getElem ha, List.getElem?_eq_getElem hb⟩

/-- A RUNNING record after its step, before the check: the phase, the pair and what is counted and shown of it. -/
def Route.stepped (r : Route) (φ x : Int) (w : Nat) (profile : Profile) (parity : Parity) (a b : WindowEntry) : Route :=
  { r with
    phase := φ, error := 65536 + 1310 * r.setting.trim - φ
    pair := some (pairOf profile w a b), frozen := false, snapshot := some (snapshotOf w a b)
    counters := { r.counters with
      outputs := r.counters.outputs + 1
      early := if r.settled ∧ x < 0 then min 65535 (r.counters.early + 1) else r.counters.early
      late := if r.settled ∧ 65536 * ((r.window.length : Int) - 1) - 1 < x then min 65535 (r.counters.late + 1)
        else r.counters.late }
    events := r.events ||| (if r.settled ∧ x < 0 then 0x02 else 0) |||
      (if r.settled ∧ 65536 * ((r.window.length : Int) - 1) - 1 < x then 0x01 else 0)
    picture := some (livePicture (pairOf profile w a b) r.outStandard parity) }

theorem Route.runBoundary_stepped (r : Route) (e : Nat) (profile : Profile) (parity : Parity) (slots : SlotTable)
    (φ x : Int) (w : Nat) (a b : WindowEntry) (h2 : 2 ≤ r.window.length) (hx : r.steppedPhase e = x)
    (hφ : r.nextPhase e = φ) (hw : weightOf φ = w) (hpos : r.positions φ = some (a, b)) :
    (r.runBoundary e profile parity slots).1 =
      (r.stepped φ x w profile parity a b).check (dominantEntry w a b).admitNumber (r.baseStep e) := by
  subst hw
  unfold Route.runBoundary
  dsimp only
  rw [hφ, hpos, hx]
  dsimp only
  rw [Route.countClamp_clampOf _ _ _ h2, Route.stepPhase, hφ]
  rfl

theorem Route.shown_of_running (r : Route) (mute : Bool) (slots : SlotTable) (parity : Parity)
    (h : r.state = .running) :
    r.shown mute slots parity = { r with lastDominant := (r.shown mute slots parity).lastDominant } := by
  have hblack : r.contentPicture .black parity = r.picture := if_pos h
  have hcarried : r.contentPicture (carriedContent mute .live) parity = r.picture := by
    cases mute
    · rfl
    · exact hblack
  have hlive : routeContent (some r) = .live := by simp only [routeContent, h]
  unfold Route.shown
  rw [hlive]
  cases r.dominantSlot <;> dsimp only
  · rw [hblack]
  · rw [hcarried]

theorem State.routeShown_of_running (s : State) (u : TimelineId) (parity : Parity) (i : RouteId)
    (h : (s.route i).state = .running) :
    s.routeShown u parity i = { s.route i with lastDominant := (s.routeShown u parity i).lastDominant } := by
  unfold State.routeShown
  split
  · exact Route.shown_of_running _ _ _ _ h
  · rfl

/-- The ports move only the last dominant number of a record that is RUNNING after its turn (R126). -/
theorem State.boundary_record_of_running (s : State) (u : TimelineId) (i : RouteId)
    (h : (s.turned u (s.timeline u).nextParity i).state = .running) :
    (s.boundary u).notify.route i =
      { s.turned u (s.timeline u).nextParity i with
        lastDominant := ((s.boundary u).notify.route i).lastDominant } := by
  rw [← State.afterRoutes_route] at h ⊢
  rw [State.boundary_route]
  exact State.routeShown_of_running _ _ _ _ h

theorem Route.check_outcome (r : Route) (number : BitVec 32) (step : Nat) :
    r.check number step =
      { r with
        counters := { r.counters with continuityErrors := (r.check number step).counters.continuityErrors }
        checker := (r.check number step).checker, events := (r.check number step).events } := by
  cases hpart : r.checker with
  | none => rw [Route.check_none r number step hpart]
  | some part =>
    cases hprev : part.previous with
    | none => rw [Route.check_first r number step part hpart hprev]
    | some prev => rw [Route.check_next r number prev step part _ hpart hprev rfl]

/-- Settles O34: the turn of a RUNNING record is its step (`Route.stepped`) and the check of its dominant. -/
theorem boundaryStepsTheRunningRoutes : Obligations.BoundaryStepsTheRunningRoutes := by
  intro s u hrun
  refine ⟨_, exec_outputBoundary s u hrun, ?_⟩
  intro i n e step w x φ profile hrunning hon hn h2 he hprofile hstep hx hφ hw
  subst hn he hprofile
  have hbase := Route.baseStep_eq _ _ _ hstep
  have hx' : (s.route i).steppedPhase (s.feed (s.route i).feed).period = x := by
    rw [Route.steppedPhase, hbase, hx]
    rfl
  have hφ' : (s.route i).nextPhase (s.feed (s.route i).feed).period = φ := by
    rw [Route.nextPhase, clampPhase_eq _ _ h2, hx', hφ]
  have hw' : weightOf φ = w := by
    unfold weightOf
    rw [← hw]
    rfl
  obtain ⟨a, b, hpos, ha, hb⟩ := (s.route i).positions_of_clamped φ h2 (by omega)
  have hturned : s.turned u (s.timeline u).nextParity i =
      ((s.route i).stepped φ x w (s.profile (s.route i).setting.profile) (s.timeline u).nextParity a b).check
        (dominantEntry w a b).admitNumber step := by
    rw [State.turned_on s u _ i hon, Route.boundary, hrunning]
    dsimp only
    rw [Route.runBoundary_stepped _ _ _ _ _ φ x w a b h2 hx' hφ' hw' hpos, hbase]
  have hrecord := s.boundary_record_of_running u i (by
    rw [hturned, Route.check_frame]
    exact hrunning)
  rw [hturned] at hrecord
  have houtcome := Route.check_outcome
    ((s.route i).stepped φ x w (s.profile (s.route i).setting.profile) (s.timeline u).nextParity a b)
    (dominantEntry w a b).admitNumber step
  have hnone := Route.check_none
    ((s.route i).stepped φ x w (s.profile (s.route i).setting.profile) (s.timeline u).nextParity a b)
    (dominantEntry w a b).admitNumber step
  have hfirst := Route.check_first
    ((s.route i).stepped φ x w (s.profile (s.route i).setting.profile) (s.timeline u).nextParity a b)
    (dominantEntry w a b).admitNumber step
  have hnext := fun prev => Route.check_next
    ((s.route i).stepped φ x w (s.profile (s.route i).setting.profile) (s.timeline u).nextParity a b)
    (dominantEntry w a b).admitNumber prev step
  have hnumber : (dominantEntry w a b).admitNumber = if w < 32 then a.admitNumber else b.admitNumber := by
    unfold dominantEntry
    split <;> rfl
  rw [hnumber] at hrecord houtcome hnone hfirst hnext
  generalize (s.boundary u).notify.route i = q at hrecord ⊢
  generalize hchecked : Route.check _ _ _ = checked at hrecord houtcome hnone hfirst hnext
  have hchecker : q.checker = checked.checker := by rw [hrecord]
  have hevents : q.events = checked.events := by rw [hrecord]
  have herrors : q.counters.continuityErrors = checked.counters.continuityErrors := by rw [hrecord]
  rw [hchecker, hevents, herrors]
  refine ⟨a, b, pairOf (s.profile (s.route i).setting.profile) w a b, _, ha, hb, rfl, rfl, ?_, fun h => ?_,
    fun part number hpart hnum => ⟨fun hprev => ?_, fun prev ok results hprev hok hres => ?_⟩⟩
  · rw [← snapshotOf_eq]
    refine hrecord.trans ?_
    conv_lhs => rw [houtcome]
    rfl
  · rw [hnone h]
    exact ⟨h, rfl, rfl⟩
  · rw [hfirst part hpart hprev, hnum]
    exact ⟨rfl, rfl, rfl⟩
  · subst hnum
    rw [hnext prev part ok hpart hprev hok]
    refine ⟨rfl, fun hstate hok hrun8 => ?_, fun hstate hok hrun8 => ?_, fun hstate hok => ?_, fun hstate hle => ?_,
      fun hstate hlt => ?_⟩
    · subst hok
      rw [part.apply_hunt_ok hstate, if_pos hrun8]
      exact ⟨rfl, rfl⟩
    · subst hok
      rw [part.apply_hunt_ok hstate, if_neg hrun8]
      exact ⟨rfl, rfl⟩
    · subst hok
      rw [part.apply_hunt_bad hstate]
      exact ⟨rfl, rfl⟩
    · have hlist : results = appendResult part.results ok := hres
      subst hlist
      rw [part.apply_sync ok hstate, if_neg (Nat.not_lt.2 hle)]
      exact ⟨rfl, rfl⟩
    · have hlist : results = appendResult part.results ok := hres
      subst hlist
      rw [part.apply_sync ok hstate, if_pos hlt]
      exact ⟨rfl, rfl⟩

end Sys2Proof.Machine

/-! What arrives for the picture in flight of a feed port (R18 to R21, R40), and a feed that falls silent (R26, R66). -/

namespace Sys2Proof.Machine

/-! ## The bytes of a line (R40) -/

theorem sampleBytes_toNat (x : Sample) : (x.setWidth 8).toNat + 256 * ((x >>> 8).setWidth 8).toNat = x.toNat := by
  have h := x.isLt
  rw [BitVec.toNat_setWidth, BitVec.toNat_setWidth, BitVec.toNat_ushiftRight, Nat.shiftRight_eq_div_pow]
  omega

/-- The four bytes of a column of a line. -/
theorem lineBytes_getElem? (pels : List Pel) (col : Nat) (pel : Pel) (h : pels[col]? = some pel) (j : Nat)
    (hj : j < 4) :
    (lineBytes pels)[4 * col + j]? = (sampleBytes pel.luma ++ sampleBytes pel.chroma)[j]? := by
  induction pels generalizing col with
  | nil => simp at h
  | cons p pels ih =>
    have hcons : lineBytes (p :: pels) = (sampleBytes p.luma ++ sampleBytes p.chroma) ++ lineBytes pels := rfl
    have hlen : (sampleBytes p.luma ++ sampleBytes p.chroma).length = 4 := rfl
    rw [hcons]
    cases col with
    | zero =>
      rw [List.getElem?_cons_zero, Option.some.injEq] at h
      rw [h, List.getElem?_append_left (by rw [← h, hlen]; omega), Nat.mul_zero, Nat.zero_add]
    | succ col =>
      rw [List.getElem?_cons_succ] at h
      rw [List.getElem?_append_right (by omega), hlen, ← ih col h]
      congr 1
      omega

/-- A word whose two bytes were written reads as they stand, low byte first (log 8). -/
theorem Memory.readWord_write (m : List Host.Cell) (base i : Nat) (bytes : List (BitVec 8)) (lo hi : BitVec 8)
    (hlo : bytes[i]? = some lo) (hhi : bytes[i + 1]? = some hi) (hd : base + i + 1 < dramBytes) :
    Memory.readWord (Memory.write m base bytes) (base + i) = lo.toNat + 256 * hi.toNat := by
  obtain ⟨hi1, rfl⟩ := List.getElem?_eq_some_iff.1 hlo
  obtain ⟨hi2, rfl⟩ := List.getElem?_eq_some_iff.1 hhi
  rw [Memory.readWord, Memory.read_write_inside m base bytes i hi1 (by omega), Nat.add_assoc,
    Memory.read_write_inside m base bytes (i + 1) hi2 (by omega)]

/-- A line written to its place reads back sample by sample. -/
theorem Memory.readWord_write_line (m : List Host.Cell) (base col : Nat) (pels : List Pel) (pel : Pel)
    (h : pels[col]? = some pel) (hd : base + 4 * col + 4 ≤ dramBytes) :
    Memory.readWord (Memory.write m base (lineBytes pels)) (base + 4 * col) = pel.luma.toNat ∧
      Memory.readWord (Memory.write m base (lineBytes pels)) (base + 4 * col + 2) = pel.chroma.toNat := by
  have hbyte := lineBytes_getElem? pels col pel h
  constructor
  · rw [Memory.readWord_write m base (4 * col) _ _ _ (hbyte 0 (by omega)) (hbyte 1 (by omega)) (by omega)]
    exact sampleBytes_toNat pel.luma
  · rw [Nat.add_assoc,
      Memory.readWord_write m base (4 * col + 2) _ _ _ (hbyte 2 (by omega)) (hbyte 3 (by omega)) (by omega)]
    exact sampleBytes_toNat pel.chroma

theorem pelAddress_in_dram (i : SlotId) (st : Standard) (k : Nat) (h : k < st.lines) :
    pelAddress i st.width k 0 + 4 * st.width ≤ dramBytes := by
  have hregion := (pelAddress_in_region i st k h).2
  have hi := i.isLt
  unfold dramBytes
  unfold slotBytes at hregion
  omega

/-! ## The picture in flight (R18 to R20) -/

theorem State.framed_iff (s : State) (f : FeedId) :
    s.framed f = true ↔ (s.feed f).inFlight = true ∧ (s.feedPort f).framing = .accepted := by
  rw [State.framed, Bool.and_eq_true, decide_eq_true_iff]

theorem State.not_framed (s : State) (f : FeedId)
    (h : (s.feed f).inFlight = false ∨ (s.feedPort f).framing ≠ .accepted) : ¬s.framed f = true := by
  rw [State.framed_iff]
  rintro ⟨hflight, hframing⟩
  rcases h with h | h
  · rw [h] at hflight
    exact absurd hflight Bool.false_ne_true
  · exact h hframing

/-- Settles O41: the line by `FeedPort.line` and `Memory.readWord_write_line`, the packets and the timecode by cases. -/
theorem picturesArriveAtTheirPorts : Obligations.PicturesArriveAtTheirPorts := by
  refine ⟨fun s f pels p tc hout => ⟨congrArg Host.Outcome.next ?_, fun hno =>
    ⟨congrArg Host.Outcome.next (if_neg (s.not_framed f hno)),
      congrArg Host.Outcome.next (if_neg (s.not_framed f hno))⟩⟩,
    fun s f pels st k r hst hflight hframing hk hr => ?_, fun s f p tc hflight hframing => ?_⟩
  · unfold State.activeLine
    split
    · rfl
    · next st hst =>
      refine if_neg (s.not_framed f (hout.resolve_left fun h => ?_))
      rw [hst] at h
      exact absurd h (by simp)
  · subst hk hr
    have hline : s.activeLine f pels =
        { s.setFeedPort f ((s.feedPort f).line st pels) with
          dram := storeLine s.dram (s.feed f).writing st (s.feedPort f).lineCount pels } := by
      unfold State.activeLine
      rw [hst]
      exact if_pos ((s.framed_iff f).2 ⟨hflight, hframing⟩)
    refine ⟨_, congrArg Host.Outcome.next hline, rfl, fun hnone => ?_, fun i base hw hlt hbase => ?_⟩
    · show storeLine _ _ _ _ _ = _
      unfold storeLine
      rcases hnone with h | h
      · rw [h]
      · split
        · exact if_neg (Nat.not_lt.2 h)
        · rfl
    · have hplace : pelAddress i st.width (s.feedPort f).lineCount 0 = base := by
        rw [hbase, pelAddress, slotBytes, Nat.mul_zero, Nat.add_zero]
      have hstored : storeLine s.dram (s.feed f).writing st (s.feedPort f).lineCount pels =
          Memory.write s.dram base (lineBytes (pels.take st.width)) := by
        unfold storeLine
        rw [hw]
        dsimp only
        rw [if_pos hlt, hplace]
      have hend := pelAddress_in_dram i st _ hlt
      rw [hplace] at hend
      dsimp only
      rw [hstored]
      refine ⟨fun a ha => Memory.read_write_outside _ _ _ _ ?_, fun col pel hcol hpel => ?_⟩
      · rw [lineBytes_length, List.length_take]
        exact ha
      · refine Memory.readWord_write_line _ _ _ _ _ ?_ (by omega)
        rw [List.getElem?_take_of_lt hcol, hpel]
  · have hframed := (s.framed_iff f).2 ⟨hflight, hframing⟩
    refine ⟨congrArg Host.Outcome.next (if_pos hframed), congrArg Host.Outcome.next ((if_pos hframed).trans ?_)⟩
    cases (s.feedPort f).timecode <;> rfl

/-! ## A change of a feed's state: the slots (R47, R49) -/

theorem SlotTable.unholdAll_idle (t : SlotTable) (l : List SlotId) (k : SlotId) (hold : (tget t k).hold = 0)
    (state : (tget t k).state ≠ .ready) : tget (SlotTable.unholdAll t l) k = tget t k := by
  rw [SlotTable.unholdAll_slot]
  split
  · have hsame : ({ tget t k with hold := 0 } : Slot) = tget t k := by rw [← hold]
    rw [hold, Nat.zero_sub, hsame]
    exact Slot.settle_of_not _ fun h => state h.1
  · rfl

/-- A slot that is not READY and that nothing holds is left as it is by a change of a feed's state. -/
theorem State.feedChanged_idle (s : State) (f : FeedId) (old new : FeedState) (k : SlotId)
    (hold : (s.slot k).hold = 0) (state : (s.slot k).state ≠ .ready) : (s.feedChanged f old new).slot k = s.slot k := by
  have hover : ∀ g : RouteId → Route → SlotTable → Route × SlotTable,
      (∀ i r t, (g i r t).2 = t ∨ (g i r t).2 = dropWindow r t) → (s.overRoutes g).slot k = s.slot k := fun g hg =>
    State.overRoutes_induct (fun u => u.slot k = s.slot k) g s rfl fun u i hu => by
      show tget (g i (u.route i) u.slots).2 k = _
      rcases hg i (u.route i) u.slots with h | h
      · rw [h]
        exact hu
      · rw [h]
        refine (SlotTable.unholdAll_idle u.slots _ k ?_ ?_).trans hu
        · exact (congrArg Slot.hold hu).trans hold
        · exact fun he => state ((congrArg Slot.state hu).symm.trans he)
  unfold State.feedChanged
  split
  · rfl
  · split
    · refine hover _ fun i r t => ?_
      unfold Route.feedLost
      split
      · exact .inr rfl
      · exact .inl rfl
    · split
      · refine hover _ fun i r t => ?_
        unfold Route.feedBack
        split
        · exact .inr rfl
        · split
          · exact .inr rfl
          · exact .inl rfl
      · rfl

theorem Route.afterChange_loss (r : Route) (f : FeedId) (old new : FeedState) (h : old ≠ new)
    (hgone : new.gone = true) :
    r.afterChange f old new = r.afterLoss f := by
  unfold Route.afterChange
  rw [if_neg h, if_pos hgone]

theorem Route.afterChange_return (r : Route) (f : FeedId) (old : FeedState) (hgone : old.gone = true) :
    r.afterChange f old .acquire = r.afterReturn f := by
  have h : old ≠ .acquire := fun h => by
    rw [h] at hgone
    exact absurd hgone (by decide)
  unfold Route.afterChange
  rw [if_neg h, if_neg (by decide), if_pos ⟨rfl, hgone⟩]

/-- A change between states that are neither LOST nor MISMATCH moves no route. -/
theorem Route.afterChange_none (r : Route) (f : FeedId) (old new : FeedState) (hold : old.gone = false)
    (hnew : new.gone = false) : r.afterChange f old new = r := by
  unfold Route.afterChange
  rw [hold, hnew]
  simp

/-! ## Silence (R26) -/

theorem Feed.silenceRuns_iff (f : Feed) :
    f.silenceRuns = true ↔
      f.lastStart.isSome = true ∧ (f.state = .acquire ∨ f.state = .locked ∨ f.state = .mismatch) := by
  simp [Feed.silenceRuns, or_assoc]

theorem State.notify_notified (s t : State) (h : t.device = s.device) : Notified s t.notify s.device.events := by
  refine ⟨?_, State.notify_summaryOk _⟩
  unfold State.notify
  dsimp only
  rw [h]

/-- The feed and its port as a silence expiry leaves them, before the Route Manager acts (R26). -/
def State.silenced (s : State) (f : FeedId) : State :=
  ((s.abandon f).setFeed f ((s.abandon f).feed f).goLost).setFeedPort f { (s.abandon f).feedPort f with refs := [] }

theorem State.silenceExpiry_eq (s : State) (f : FeedId) (h : (s.feed f).silenceRuns = true) :
    s.silenceExpiry f = (s.silenced f).feedChanged f (s.feed f).state .lost := if_pos h

/-- The record of a feed whose picture in flight is abandoned (R25, R26). -/
def Feed.abandoned (f : Feed) : Feed :=
  { f with
    inFlight := false
    writing := if f.inFlight then none else f.writing
    measurement := if f.inFlight then none else f.measurement
    damaged := if f.inFlight then min 65535 (f.damaged + 1) else f.damaged
    events := f.events ||| (if f.inFlight then 0x4 else 0) }

theorem Feed.abandoned_of_rest (f : Feed) (h : f.inFlight = false) : f.abandoned = f := by
  unfold Feed.abandoned
  rw [h]
  simp only [Bool.false_eq_true, if_false, BitVec.ofNat_eq_ofNat, BitVec.or_zero]
  rw [← h]

theorem State.setFeed_self (s : State) (f : FeedId) : s.setFeed f (s.feed f) = s := by
  have hself : tset s.feeds f (s.feed f) = s.feeds := tset_tget _ _
  show { s with feeds := tset s.feeds f (s.feed f) } = s
  rw [hself]

theorem State.abandon_eq (s : State) (f : FeedId) :
    s.abandon f =
      { s.setFeed f (s.feed f).abandoned with
        slots := if (s.feed f).inFlight then SlotTable.handBack s.slots (s.feed f).writing else s.slots } := by
  unfold State.abandon
  cases h : (s.feed f).inFlight
  · rw [Feed.abandoned_of_rest _ h, State.setFeed_self]
    rfl
  · unfold Feed.abandoned
    rw [h]
    rfl

theorem State.abandon_feed (s : State) (f g : FeedId) :
    (s.abandon f).feed g = if f = g then (s.feed f).abandoned else s.feed g := by
  rw [State.abandon_eq]
  exact State.setFeed_feed s f g _

theorem State.silenced_eq (s : State) (f : FeedId) :
    s.silenced f =
      { (s.setFeed f (s.feed f).abandoned.goLost).setFeedPort f { s.feedPort f with refs := [] } with
        slots := if (s.feed f).inFlight then SlotTable.handBack s.slots (s.feed f).writing else s.slots } := by
  unfold State.silenced
  rw [State.abandon_feed, if_pos rfl, State.abandon_eq]
  unfold State.setFeed
  dsimp only
  rw [tset_tset]
  rfl

/-- Settles O45: the feed and its port by `State.silenced_eq`, the routes and the slots by the Route Manager's rule. -/
theorem silenceTakesTheFeedToLost : Obligations.SilenceTakesTheFeedToLost := by
  refine ⟨fun s f hsummary hno => ?_, fun s f hlast hstate => ?_⟩
  · have hruns : ¬(s.feed f).silenceRuns = true := by
      rw [Feed.silenceRuns_iff]
      rintro ⟨hsome, hstate⟩
      rcases hno with h | h | h | h
      · rw [h] at hsome
        exact absurd hsome Bool.false_ne_true
      all_goals
        rw [h] at hstate
        exact absurd hstate (by decide)
    have hsame : s.silenceExpiry f = s := if_neg hruns
    show Host.Outcome.next (s.silenceExpiry f).notify = .next s
    rw [hsame, State.notify_eq_self s hsummary]
  · have hmoved : (s.feed f).state ≠ .lost := by rcases hstate with h | h | h <;> rw [h] <;> decide
    have hsilence := s.silenceExpiry_eq f ((Feed.silenceRuns_iff _).2 ⟨hlast, hstate⟩)
    have honly := State.feedChanged_only (s.silenced f) f (s.feed f).state .lost
    have hkept := State.feedChanged_keepsRecords (s.silenced f) f (s.feed f).state .lost
    have hidle := State.feedChanged_idle (s.silenced f) f (s.feed f).state .lost
    have hroute := State.feedChanged_route (s.silenced f) f (s.feed f).state .lost
    rw [← hsilence] at honly hkept hidle hroute
    have hslots : (s.silenced f).slots =
        if (s.feed f).inFlight then SlotTable.handBack s.slots (s.feed f).writing else s.slots := by
      rw [State.silenced_eq]
    have hback : SlotTable.KeepsRecords s.slots (s.silenced f).slots := by
      rw [hslots]
      split
      · exact SlotTable.keepsRecords_handBack _ _
      · exact .refl _
    have hroutes : ∀ j, (s.silenced f).route j = s.route j := fun j => by rw [State.silenced_eq]; rfl
    refine ⟨_, rfl, ?_, State.notify_notified s _ ?_, fun k => ?_, fun k hflight hw => ?_, fun j => ?_⟩
    · generalize s.silenceExpiry f = t at honly
      rw [honly, State.silenced_eq]
      rfl
    · rw [honly, State.silenced_eq]
      rfl
    · exact hback.trans hkept k
    · have hfreed : (s.silenced f).slot k = { s.slot k with state := .free, hold := 0, pin := 0 } := by
        show tget (s.silenced f).slots k = _
        rw [hslots, if_pos hflight, SlotTable.handBack_slot, if_pos hw]
        rfl
      have hsame : (s.silenceExpiry f).notify.slot k = { s.slot k with state := .free, hold := 0, pin := 0 } :=
        (hidle k (by rw [hfreed]) (by rw [hfreed]; simp)).trans hfreed
      rw [hsame]
      exact ⟨rfl, rfl, rfl⟩
    · refine (hroute j).trans ?_
      rw [hroutes, Route.afterChange_loss _ _ _ _ hmoved rfl]
      rfl

end Sys2Proof.Machine

/-! An accepted start (R23 to R25, R41 to R43): the feed, the slots and the routes it leaves, with and without a picture
in flight. -/

namespace Sys2Proof.Machine

/-! ## The feed's own part (R24, R25) -/

/-- The feed as an accepted start leaves it but for the storing of the picture (R24, R25). -/
def State.startedFeed (s : State) (f : FeedId) (st : Standard) (tick : Tick) : Feed :=
  (((s.truncate f st).feed f).enterAcquire st).takeStart tick ((s.feed f).measure tick)

/-- The slots once the picture in flight is truncated (R25, R44). -/
def State.truncatedSlots (s : State) (f : FeedId) : SlotTable :=
  if (s.feed f).inFlight then SlotTable.handBack s.slots (s.feed f).writing else s.slots

theorem State.truncate_slots (s : State) (f : FeedId) (st : Standard) :
    (s.truncate f st).slots = s.truncatedSlots f := by
  unfold State.truncate State.truncatedSlots
  cases h : (s.feed f).inFlight
  · rfl
  · rw [State.abandon_eq, h]
    rfl

theorem State.truncate_feed (s : State) (f : FeedId) (st : Standard) :
    (s.truncate f st).feed f =
      if (s.feed f).inFlight then (s.feed f).abandoned.applyVerdict st .bad else s.feed f := by
  unfold State.truncate
  cases h : (s.feed f).inFlight
  · rfl
  · simp only [if_true]
    rw [State.setFeed_feed_self, State.abandon_feed, if_pos rfl]

theorem State.truncate_other (s : State) (f g : FeedId) (st : Standard) (h : f ≠ g) :
    (s.truncate f st).feed g = s.feed g := by
  unfold State.truncate
  split
  · rw [State.setFeed_feed, if_neg h, State.abandon_feed, if_neg h]
  · rfl

/-- What an accepted start leaves before the picture is stored. -/
theorem State.startPicture_eq (s : State) (f : FeedId) (st : Standard) (tick : Tick) (parity : Parity) :
    s.startPicture f st tick parity =
      { s with
        feeds := (s.startPicture f st tick parity).feeds
        feedPorts := tset s.feedPorts f ((s.feedPort f).begin parity)
        slots := s.truncatedSlots f } := by
  rw [← State.truncate_slots s f st]
  have h := State.truncate_only s f st
  unfold State.startPicture
  generalize s.truncate f st = u at h
  rw [h]
  rfl

theorem State.startPicture_feed (s : State) (f g : FeedId) (st : Standard) (tick : Tick) (parity : Parity) :
    (s.startPicture f st tick parity).feed g = if f = g then s.startedFeed f st tick else s.feed g := by
  have hset : (s.startPicture f st tick parity).feed g =
      ((s.truncate f st).setFeed f (s.startedFeed f st tick)).feed g := rfl
  rw [hset, State.setFeed_feed]
  split
  · rfl
  · next h => exact s.truncate_other f g st h

/-! ## The storing of the picture (R41 to R43) -/

theorem State.hasTaker_iff (s : State) (f : FeedId) :
    s.hasTaker f = true ↔
      (∃ i, (s.route i).feed = f ∧
        ((s.route i).state = .priming ∨ (s.route i).state = .running ∨ (s.route i).state = .held)) ∨
      ∃ u, s.monitor.view = .feed f u := by
  have htaking : ∀ st : RouteState, st.taking = true ↔ st = .priming ∨ st = .running ∨ st = .held := fun st => by
    cases st <;> simp [RouteState.taking]
  unfold State.hasTaker
  rw [Bool.or_eq_true, List.any_eq_true]
  refine or_congr ⟨?_, ?_⟩ ?_
  · rintro ⟨i, -, h⟩
    rw [Bool.and_eq_true, beq_iff_eq, htaking] at h
    exact ⟨i, h.2, h.1⟩
  · rintro ⟨i, hf, hstate⟩
    refine ⟨i, List.mem_finRange i, ?_⟩
    rw [Bool.and_eq_true, beq_iff_eq, htaking]
    exact ⟨hstate, hf⟩
  · cases s.monitor.view <;> simp

theorem State.freeSlot_eq_some (s : State) (f : FeedId) (k : SlotId) (hk : k.val / 16 = f.val)
    (hfree : (s.slot k).state = .free)
    (hfirst : ∀ j : SlotId, j < k → j.val / 16 = f.val → (s.slot j).state ≠ .free) : s.freeSlot f = some k := by
  have hplace : ∀ j : Fin 16, (16 * f.val + j.val) / 16 = f.val := fun j => by omega
  have hlow : (List.finRange 16).find? (fun j => (s.slot ⟨16 * f.val + j.val, by omega⟩).state == .free) =
      some ⟨k.val % 16, by omega⟩ := by
    refine List.find?_finRange_eq_some _ _ ?_ fun j hj => ?_
    · rw [beq_iff_eq, ← hfree]
      congr 3
      dsimp only
      omega
    · refine beq_eq_false_iff_ne.2 (hfirst _ ?_ (hplace j))
      rw [Fin.lt_def] at hj ⊢
      dsimp only at hj ⊢
      omega
  rw [State.freeSlot, feedSlots, List.find?_map]
  refine (congrArg (Option.map _) hlow).trans ?_
  rw [Option.map_some, Option.some.injEq]
  apply Fin.ext
  dsimp only
  omega

theorem State.freeSlot_eq_none (s : State) (f : FeedId)
    (h : ∀ j : SlotId, j.val / 16 = f.val → (s.slot j).state ≠ .free) : s.freeSlot f = none := by
  cases hs : s.freeSlot f with
  | none => rfl
  | some k => exact absurd (s.freeSlot_spec f k hs).2 (h k (s.freeSlot_spec f k hs).1)

theorem State.store_of_not (s : State) (f : FeedId) (st : Standard) (seq : BitVec 32) (parity : Parity)
    (h : s.storesStart f = false) : s.store f st seq parity = s := by
  unfold State.store
  rw [h]
  rfl

theorem State.store_of_some (s : State) (f : FeedId) (st : Standard) (seq : BitVec 32) (parity : Parity) (k : SlotId)
    (h : s.storesStart f = true) (hk : s.freeSlot f = some k) :
    s.store f st seq parity =
      { s.setFeed f { s.feed f with writing := some k } with
        slots := tset s.slots k (allocatedSlot (s.slot k) seq st parity) } := by
  unfold State.store
  rw [if_pos h, hk]

theorem State.store_of_none (s : State) (f : FeedId) (st : Standard) (seq : BitVec 32) (parity : Parity)
    (h : s.storesStart f = true) (hnone : s.freeSlot f = none) :
    s.store f st seq parity =
      s.setFeed f ({ s.feed f with overruns := sat16 (s.feed f).overruns }.raise .overrun) := by
  unfold State.store
  rw [if_pos h, hnone]

/-- The state after an accepted start, before the Route Manager acts. -/
def State.started (s : State) (f : FeedId) (st : Standard) (tick : Tick) (parity : Parity) : State :=
  (s.startPicture f st tick parity).store f st (s.feed f).nextSeq parity

theorem State.startPicture_storesStart (s : State) (f : FeedId) (st : Standard) (tick : Tick) (parity : Parity) :
    (s.startPicture f st tick parity).storesStart f =
      (((s.startedFeed f st tick).state == .acquire || (s.startedFeed f st tick).state == .locked) &&
        s.hasTaker f) := by
  have htaker : (s.startPicture f st tick parity).hasTaker f = s.hasTaker f := by
    rw [State.startPicture_eq]
    rfl
  rw [State.storesStart, htaker, State.startPicture_feed, if_pos rfl]

theorem State.startPicture_slot (s : State) (f : FeedId) (st : Standard) (tick : Tick) (parity : Parity) (k : SlotId) :
    (s.startPicture f st tick parity).slot k = tget (s.truncatedSlots f) k := by
  rw [State.startPicture_eq]
  rfl

theorem State.started_of_not (s : State) (f : FeedId) (st : Standard) (tick : Tick) (parity : Parity)
    (h : (s.startPicture f st tick parity).storesStart f = false) :
    (s.started f st tick parity).feed f = s.startedFeed f st tick ∧
      (s.started f st tick parity).slots = s.truncatedSlots f := by
  rw [State.started, State.store_of_not _ _ _ _ _ h, State.startPicture_feed, if_pos rfl]
  refine ⟨rfl, ?_⟩
  rw [State.startPicture_eq]

theorem State.started_of_some (s : State) (f : FeedId) (st : Standard) (tick : Tick) (parity : Parity) (k : SlotId)
    (h : (s.startPicture f st tick parity).storesStart f = true)
    (hk : (s.startPicture f st tick parity).freeSlot f = some k) :
    (s.started f st tick parity).feed f = { s.startedFeed f st tick with writing := some k } ∧
      (s.started f st tick parity).slots = tset (s.truncatedSlots f) k
        (allocatedSlot (tget (s.truncatedSlots f) k) (s.feed f).nextSeq st parity) := by
  have hslots : (s.startPicture f st tick parity).slots = s.truncatedSlots f := by rw [State.startPicture_eq]
  rw [State.started, State.store_of_some _ _ _ _ _ k h hk, ← hslots]
  refine ⟨(State.setFeed_feed_self _ _ _).trans ?_, rfl⟩
  rw [State.startPicture_feed, if_pos rfl]

theorem State.started_of_none (s : State) (f : FeedId) (st : Standard) (tick : Tick) (parity : Parity)
    (h : (s.startPicture f st tick parity).storesStart f = true)
    (hnone : (s.startPicture f st tick parity).freeSlot f = none) :
    (s.started f st tick parity).feed f =
        { s.startedFeed f st tick with
          overruns := min 65535 ((s.startedFeed f st tick).overruns + 1)
          events := (s.startedFeed f st tick).events ||| 0x2 } ∧
      (s.started f st tick parity).slots = s.truncatedSlots f := by
  have hslots : (s.startPicture f st tick parity).slots = s.truncatedSlots f := by rw [State.startPicture_eq]
  rw [State.started, State.store_of_none _ _ _ _ _ h hnone, ← hslots]
  refine ⟨(State.setFeed_feed_self _ _ _).trans ?_, rfl⟩
  rw [State.startPicture_feed, if_pos rfl]
  rfl

/-- The slot a start stores in is the one it allocates; every other slot is as the truncation leaves it. -/
theorem State.started_slot (s : State) (f : FeedId) (st : Standard) (tick : Tick) (parity : Parity) (k : SlotId) :
    (s.started f st tick parity).slot k =
      if ((s.started f st tick parity).feed f).writing = some k then
        allocatedSlot (tget (s.truncatedSlots f) k) (s.feed f).nextSeq st parity
      else tget (s.truncatedSlots f) k := by
  have hwriting : (s.startedFeed f st tick).writing = none := rfl
  have hslot : ∀ t : SlotTable, (s.started f st tick parity).slots = t →
      (s.started f st tick parity).slot k = tget t k :=
    fun t h => congrArg (fun u => tget u k) h
  cases h : (s.startPicture f st tick parity).storesStart f with
  | false =>
    obtain ⟨hfeed, hslots⟩ := s.started_of_not f st tick parity h
    rw [hfeed, hslot _ hslots, hwriting]
    rfl
  | true =>
    cases hk : (s.startPicture f st tick parity).freeSlot f with
    | none =>
      obtain ⟨hfeed, hslots⟩ := s.started_of_none f st tick parity h hk
      rw [hfeed, hslot _ hslots]
      exact (if_neg (by rw [hwriting]; simp)).symm
    | some i =>
      obtain ⟨hfeed, hslots⟩ := s.started_of_some f st tick parity i h hk
      rw [hfeed, hslot _ hslots, tget_tset]
      by_cases hik : i = k
      · rw [if_pos hik, if_pos (congrArg some hik), hik]
      · rw [if_neg hik, if_neg fun he => hik (Option.some.inj he)]

theorem State.started_only (s : State) (f : FeedId) (st : Standard) (tick : Tick) (parity : Parity) :
    s.started f st tick parity =
      { s with
        feeds := (s.started f st tick parity).feeds
        feedPorts := tset s.feedPorts f ((s.feedPort f).begin parity)
        slots := (s.started f st tick parity).slots } := by
  unfold State.started
  rw [State.store_only, State.startPicture_eq]

theorem State.store_feed_other (s : State) (f g : FeedId) (st : Standard) (seq : BitVec 32) (parity : Parity)
    (h : f ≠ g) : (s.store f st seq parity).feed g = s.feed g := by
  unfold State.store
  split
  · split
    · exact (State.setFeed_feed s f g _).trans (if_neg h)
    · exact (State.setFeed_feed s f g _).trans (if_neg h)
  · rfl

theorem State.started_other (s : State) (f g : FeedId) (st : Standard) (tick : Tick) (parity : Parity) (h : f ≠ g) :
    (s.started f st tick parity).feed g = s.feed g := by
  rw [State.started, State.store_feed_other _ _ _ _ _ _ h, State.startPicture_feed, if_neg h]

/-- The storing of a start moves the feed's writing slot, its overruns and its pending events alone. -/
theorem State.started_feed (s : State) (f : FeedId) (st : Standard) (tick : Tick) (parity : Parity) :
    (s.started f st tick parity).feed f =
      { s.startedFeed f st tick with
        writing := ((s.started f st tick parity).feed f).writing
        overruns := ((s.started f st tick parity).feed f).overruns
        events := ((s.started f st tick parity).feed f).events } := by
  cases h : (s.startPicture f st tick parity).storesStart f with
  | false => rw [(s.started_of_not f st tick parity h).1]
  | true =>
    cases hk : (s.startPicture f st tick parity).freeSlot f with
    | none => rw [(s.started_of_none f st tick parity h hk).1]
    | some i => rw [(s.started_of_some f st tick parity i h hk).1]

theorem State.acceptStart_eq (s : State) (f : FeedId) (st : Standard) (tick : Tick) (parity : Parity) :
    s.acceptStart f st tick parity =
      (s.started f st tick parity).feedChanged f (s.feed f).state (s.startedFeed f st tick).state := by
  have hstate : ((s.started f st tick parity).feed f).state = (s.startedFeed f st tick).state := by
    rw [State.started_feed]
  rw [← hstate]
  rfl

/-- What an accepted start leaves: the feeds and ports as the start does, the slots and the routes as the Route Manager
does after it. -/
theorem State.acceptStart_only (s : State) (f : FeedId) (st : Standard) (tick : Tick) (parity : Parity) :
    s.acceptStart f st tick parity =
      { s with
        feeds := (s.started f st tick parity).feeds
        feedPorts := tset s.feedPorts f ((s.feedPort f).begin parity)
        slots := (s.acceptStart f st tick parity).slots
        routes := (s.acceptStart f st tick parity).routes } := by
  have h := State.feedChanged_only (s.started f st tick parity) f (s.feed f).state (s.startedFeed f st tick).state
  rw [← State.acceptStart_eq] at h
  generalize s.acceptStart f st tick parity = t at h
  rw [h, State.started_only]

theorem State.acceptStart_route (s : State) (f : FeedId) (st : Standard) (tick : Tick) (parity : Parity) (j : RouteId) :
    (s.acceptStart f st tick parity).route j =
      (s.route j).afterChange f (s.feed f).state (s.startedFeed f st tick).state := by
  rw [State.acceptStart_eq, State.feedChanged_route, State.started_only]
  rfl

end Sys2Proof.Machine

/-! Picture starts: accepted ones (R23, R24, R41 to R43, R67), runts (R23) and truncations (R24, R25, R66). -/

namespace Sys2Proof.Machine

/-! ## What the Route Manager makes of a record, field by field (R65 to R67) -/

theorem Route.afterLoss_eq (f : FeedId) (r : Route) :
    r.afterLoss f =
      if r.feed = f ∧ (r.state = .priming ∨ r.state = .running) then
        { r with
          state := .starved, window := [], settled := false, lapse := 0, frozen := r.pair.isSome
          cadence := r.cadence.map (fun _ => { history := [], lock := none })
          checker := r.checker.map (fun _ => { state := .hunt, run := 0, results := [], previous := none })
          events := r.events ||| 0x10 }
      else r := rfl

theorem Route.afterReturn_eq (f : FeedId) (r : Route) :
    r.afterReturn f =
      if r.feed = f ∧ (r.state = .starved ∨ r.state = .lapsed ∨ r.state = .held) then
        { r with
          state := if r.state = .held then .held else .priming
          phase := if r.state = .held then r.phase else 0
          error := if r.state = .held then r.error else 0
          window := [], settled := false
          cadence := r.cadence.map (fun _ => { history := [], lock := none })
          checker := r.checker.map (fun _ => { state := .hunt, run := 0, results := [], previous := none }) }
      else r := by
  unfold Route.afterReturn
  by_cases hf : r.feed = f
  · cases hs : r.state <;> simp [hf, hs, Route.recover, Route.flush, flushCadence, flushChecker, CadencePart.search,
      CheckerPart.fresh]
  · simp [hf]

/-! ## Accepted starts with no picture in flight -/

theorem Feed.enterAcquire_eq (f : Feed) (st : Standard) :
    f.enterAcquire st =
      { f with
        state := if f.state = .empty ∨ f.state = .lost then .acquire else f.state
        period := if f.state = .empty then 256 * st.nominal else f.period
        goodRun := if f.state = .empty ∨ f.state = .lost then 0 else f.goodRun
        rejectRun := if f.state = .empty ∨ f.state = .lost then 0 else f.rejectRun
        badRun := if f.state = .empty ∨ f.state = .lost then 0 else f.badRun
        events := f.events ||| (if f.state = .empty ∨ f.state = .lost then 0x1 else 0) } := by
  by_cases hempty : f.state = .empty
  · simp [Feed.enterAcquire, hempty, Feed.atNominal, Feed.raise, FeedEvent.mask, Standard.nominalPeriod]
  · by_cases hlost : f.state = .lost
    · simp [Feed.enterAcquire, hlost, Feed.raise, FeedEvent.mask]
    · have hother : f.enterAcquire st = f := by
        unfold Feed.enterAcquire
        cases hs : f.state
        case empty => exact absurd hs hempty
        case lost => exact absurd hs hlost
        all_goals rfl
      rw [hother]
      simp [hempty, hlost]

theorem Feed.runtStart_iff (f : Feed) (st : Standard) (tick : Tick) :
    f.runtStart st tick = true ↔ ∃ last, f.lastStart = some last ∧ (tick - last).toNat < 3 * st.nominal / 4 := by
  unfold Feed.runtStart Feed.measure isRunt
  cases f.lastStart <;> simp

theorem exec_pictureStart_accepted (s : State) (f : FeedId) (st : Standard) (tick : Tick) (bottom : Bool)
    (hst : (s.feed f).standard = some st) (hrunt : (s.feed f).runtStart st tick = false) :
    exec (.pictureStart f tick bottom) s = .next (s.acceptStart f st tick (st.startParity bottom)).notify := by
  show Host.Outcome.next (s.pictureStart f tick bottom).notify = _
  unfold State.pictureStart
  rw [hst]
  dsimp only
  rw [hrunt]
  rfl

theorem State.acceptStart_feed (s : State) (f g : FeedId) (st : Standard) (tick : Tick) (parity : Parity) :
    (s.acceptStart f st tick parity).notify.feed g = (s.started f st tick parity).feed g := by
  have h : (s.acceptStart f st tick parity).notify.feeds = (s.started f st tick parity).feeds := by
    rw [State.notify_feeds, State.acceptStart_only]
  exact congrArg (fun t => tget t g) h

theorem State.acceptStart_feedPort (s : State) (f g : FeedId) (st : Standard) (tick : Tick) (parity : Parity) :
    (s.acceptStart f st tick parity).notify.feedPort g =
      if f = g then (s.feedPort f).begin parity else s.feedPort g := by
  have h : (s.acceptStart f st tick parity).notify.feedPorts = tset s.feedPorts f ((s.feedPort f).begin parity) := by
    rw [State.notify_feedPorts, State.acceptStart_only]
  exact (congrArg (fun t => tget t g) h).trans (tget_tset _ _ _ _)

/-- An accepted start leaves the feeds, their ports, the slots, the routes and the summary moved, and nothing else. -/
theorem State.acceptStart_notify_only (s : State) (f : FeedId) (st : Standard) (tick : Tick) (parity : Parity) :
    (s.acceptStart f st tick parity).notify =
        { s with
          feeds := (s.acceptStart f st tick parity).notify.feeds
          feedPorts := (s.acceptStart f st tick parity).notify.feedPorts
          slots := (s.acceptStart f st tick parity).notify.slots
          routes := (s.acceptStart f st tick parity).notify.routes
          device := (s.acceptStart f st tick parity).notify.device } ∧
      Notified s (s.acceptStart f st tick parity).notify s.device.events := by
  have h := s.acceptStart_only f st tick parity
  refine ⟨?_, State.notify_notified s _ (by rw [h])⟩
  generalize s.acceptStart f st tick parity = t at h ⊢
  rw [h]
  rfl

theorem State.acceptStart_notify_route (s : State) (f : FeedId) (st : Standard) (tick : Tick) (parity : Parity)
    (j : RouteId) :
    (s.acceptStart f st tick parity).notify.route j =
      (s.route j).afterChange f (s.feed f).state (s.startedFeed f st tick).state := by
  rw [← State.acceptStart_route s f st tick parity j]
  exact State.route_eq_of_routes_eq (State.notify_routes _) j

/-- Where the Route Manager moves no route the slots are as the start leaves them. -/
theorem State.acceptStart_slots_kept (s : State) (f : FeedId) (st : Standard) (tick : Tick) (parity : Parity)
    (h : (s.startedFeed f st tick).state = (s.feed f).state ∨
      ((s.feed f).state.gone = false ∧ (s.startedFeed f st tick).state.gone = false)) :
    (s.acceptStart f st tick parity).notify.slots = (s.started f st tick parity).slots := by
  rw [State.notify_slots, State.acceptStart_eq]
  unfold State.feedChanged
  rcases h with h | ⟨hold, hnew⟩
  · rw [h, if_pos rfl]
  · rw [hold, hnew]
    simp

theorem State.acceptStart_keepsRecords (s : State) (f : FeedId) (st : Standard) (tick : Tick) (parity : Parity) :
    SlotTable.KeepsRecords (s.started f st tick parity).slots (s.acceptStart f st tick parity).notify.slots := by
  rw [State.notify_slots, State.acceptStart_eq]
  exact State.feedChanged_keepsRecords _ _ _ _

theorem State.acceptStart_idle (s : State) (f : FeedId) (st : Standard) (tick : Tick) (parity : Parity) (k : SlotId)
    (hold : ((s.started f st tick parity).slot k).hold = 0)
    (state : ((s.started f st tick parity).slot k).state ≠ .ready) :
    (s.acceptStart f st tick parity).notify.slot k = (s.started f st tick parity).slot k := by
  have h := State.feedChanged_idle (s.started f st tick parity) f (s.feed f).state (s.startedFeed f st tick).state k
    hold state
  rw [← State.acceptStart_eq] at h
  rw [← h]
  exact congrArg (fun t => tget t k) (State.notify_slots _)

/-- The slot a start stores in (R42, R43). -/
theorem State.acceptStart_stored (s : State) (f : FeedId) (st : Standard) (tick : Tick) (parity : Parity) (k : SlotId)
    (h : ((s.started f st tick parity).feed f).writing = some k) :
    (s.acceptStart f st tick parity).notify.slot k =
      { state := .writing, seq := (s.feed f).nextSeq, standard := some st, parity := parity, timecode := none
        packets := [], hold := 0, pin := 0 } := by
  have hslot := s.started_slot f st tick parity k
  rw [if_pos h] at hslot
  rw [State.acceptStart_idle s f st tick parity k (by rw [hslot]; rfl) (by rw [hslot]; simp [allocatedSlot]), hslot]
  rfl

/-- Settles O38. -/
theorem acceptedStartsAreTaken : Obligations.AcceptedStartsAreTaken := by
  intro s f st tick bottom m state stores hst hflight hm hlate hstate hstores
  have hrunt : (s.feed f).runtStart st tick = false := by
    rw [Bool.eq_false_iff, Ne, Feed.runtStart_iff]
    rintro ⟨last, hlast, hlt⟩
    have := hlate (tick - last) (by rw [hm, hlast]; rfl)
    omega
  have hslots : s.truncatedSlots f = s.slots := by rw [State.truncatedSlots, hflight]; rfl
  have hstarted : s.startedFeed f st tick = ((s.feed f).enterAcquire st).takeStart tick m := by
    rw [State.startedFeed, State.truncate_feed, hflight, hm]
    rfl
  have hstartedState : (s.startedFeed f st tick).state = state := by
    rw [hstarted, Feed.enterAcquire_eq, hstate]
    rfl
  have hmoved : ((s.feed f).state = .empty ∨ (s.feed f).state = .lost) ↔ state ≠ (s.feed f).state := by
    rw [hstate]
    cases (s.feed f).state <;> simp
  have hevents : (s.startedFeed f st tick).events =
      (s.feed f).events ||| (if state = (s.feed f).state then 0 else 0x1) := by
    rw [hstarted, Feed.enterAcquire_eq]
    show (s.feed f).events ||| _ = _
    by_cases h : state = (s.feed f).state
    · rw [if_neg fun he => hmoved.1 he h, if_pos h]
    · rw [if_pos (hmoved.2 h), if_neg h]
  have hoverruns : (s.startedFeed f st tick).overruns = (s.feed f).overruns := by
    rw [hstarted, Feed.enterAcquire_eq]
    rfl
  have hwriting : (s.startedFeed f st tick).writing = none := rfl
  have hstoring : (s.startPicture f st tick (st.startParity bottom)).storesStart f = stores := by
    rw [Bool.eq_iff_iff, hstores, State.startPicture_storesStart, hstartedState, Bool.and_eq_true, State.hasTaker_iff]
    simp
  have hkept : (s.feed f).state ≠ .lost →
      (s.acceptStart f st tick (st.startParity bottom)).notify.slots =
        (s.started f st tick (st.startParity bottom)).slots := fun hlost => by
    refine s.acceptStart_slots_kept f st tick _ ?_
    rw [hstartedState, hstate]
    cases hs : (s.feed f).state <;> simp_all [FeedState.gone]
  have hslot : ∀ k, (s.startPicture f st tick (st.startParity bottom)).slot k = s.slot k := fun k => by
    rw [State.startPicture_slot, hslots]
    rfl
  obtain ⟨honly, hnotified⟩ := s.acceptStart_notify_only f st tick (st.startParity bottom)
  have hfeed := fun g => s.acceptStart_feed f g st tick (st.startParity bottom)
  have hport := fun g => s.acceptStart_feedPort f g st tick (st.startParity bottom)
  refine ⟨_, exec_pictureStart_accepted s f st tick bottom hst hrunt, honly, hnotified, fun g hg => ⟨?_, ?_⟩, ?_, ?_,
    fun hno => ?_, fun k hyes hk hfree hfirst => ?_, fun hyes hfull => ?_, fun k hk => ?_, fun j => ?_⟩
  · rw [hfeed, s.started_other f g st tick _ (Ne.symm hg)]
  · rw [hport, if_neg (Ne.symm hg)]
  · rw [hport, if_pos rfl]
    rfl
  · rw [hfeed]
    refine (s.started_feed f st tick _).trans ?_
    have hrun : ∀ n : Nat, (if (s.feed f).state = .empty ∨ (s.feed f).state = .lost then 0 else n) =
        if state = (s.feed f).state then n else 0 := fun n => by
      by_cases h : state = (s.feed f).state
      · rw [if_neg fun he => hmoved.1 he h, if_pos h]
      · rw [if_pos (hmoved.2 h), if_neg h]
    rw [hstarted, Feed.enterAcquire_eq, ← hstate, hrun, hrun, hrun]
    rfl
  · rw [hno] at hstoring
    obtain ⟨hf, ht⟩ := s.started_of_not f st tick _ hstoring
    rw [hfeed, hf, hevents]
    exact ⟨hwriting, hoverruns, rfl, fun hlost => ((hkept hlost).trans ht).trans hslots⟩
  · rw [hyes] at hstoring
    obtain ⟨hf, ht⟩ := s.started_of_some f st tick _ k hstoring (State.freeSlot_eq_some _ f k hk
      (by rw [hslot]; exact hfree) (fun j hj hjf => by rw [hslot]; exact hfirst j hj hjf))
    rw [hfeed, hf]
    have hstored := s.acceptStart_stored f st tick (st.startParity bottom) k (by rw [hf])
    refine ⟨rfl, hoverruns, hevents, ?_, fun hlost => ?_⟩
    · rw [hstored, hport, if_pos rfl]
      rfl
    · rw [hkept hlost, ht, hstored, hslots]
      rfl
  · rw [hyes] at hstoring
    obtain ⟨hf, ht⟩ := s.started_of_none f st tick _ hstoring (State.freeSlot_eq_none _ f
      fun j hj => by rw [hslot]; exact hfull j hj)
    rw [hfeed, hf]
    refine ⟨hwriting, ?_, ?_, fun hlost => ((hkept hlost).trans ht).trans hslots⟩
    · rw [← hoverruns]
    · rw [← hevents]
  · rw [hfeed] at hk
    have hother := s.started_slot f st tick (st.startParity bottom) k
    rw [if_neg hk, hslots] at hother
    have h := s.acceptStart_keepsRecords f st tick (st.startParity bottom) k
    rw [show tget (s.started f st tick (st.startParity bottom)).slots k = s.slot k from hother] at h
    exact h
  · rw [State.acceptStart_notify_route, hstartedState]
    by_cases hlost : (s.feed f).state = .lost
    · rw [hstate, hlost, if_pos (.inr rfl), Route.afterChange_return _ _ _ rfl, Route.afterReturn_eq]
      simp only [true_and]
    · rw [if_neg fun h => hlost h.1]
      by_cases hsame : (s.feed f).state = state
      · rw [hsame]
        exact if_pos rfl
      · have hempty : (s.feed f).state = .empty := (hmoved.2 (Ne.symm hsame)).resolve_right hlost
        rw [hstate, hempty, if_pos (.inl rfl)]
        exact Route.afterChange_none _ _ _ _ rfl rfl

/-! ## Runts and truncations -/

/-- A verdict on a feed that stands as `f` does in its state, its runs and its rejects (R29 to R31). -/
theorem Feed.applyVerdict_like (f h : Feed) (st : Standard) (v : Verdict) (hstate : h.state = f.state)
    (hgood : h.goodRun = f.goodRun) (hreject : h.rejectRun = f.rejectRun) (hbad : h.badRun = f.badRun)
    (hrejects : h.rejects = f.rejects) :
    h.applyVerdict st v =
      { h with
        state := (f.applyVerdict st v).state, goodRun := (f.applyVerdict st v).goodRun
        rejectRun := (f.applyVerdict st v).rejectRun, badRun := (f.applyVerdict st v).badRun
        rejects := (f.applyVerdict st v).rejects
        period := if f.state = .mismatch ∧ v = .good then 256 * st.nominal else h.period
        events := h.events ||| (if (f.applyVerdict st v).state = f.state then 0 else 0x1) } := by
  cases f
  cases h
  dsimp only at hstate hgood hreject hbad hrejects
  subst hstate hgood hreject hbad hrejects
  unfold Feed.applyVerdict Feed.acquireVerdict Feed.lockedVerdict Feed.mismatchVerdict
  cases ‹FeedState› <;> cases v <;> dsimp only [Feed.raiseChange, Feed.atNominal, Feed.raise, FeedEvent.mask]
  all_goals split_ifs
  all_goals simp_all [Standard.nominalPeriod]

/-- The states whose silence timer runs (R26): a picture in flight is there alone. -/
def FeedState.Timed (st : FeedState) : Prop := st = .acquire ∨ st = .locked ∨ st = .mismatch

theorem FeedState.Timed.not_gone {st : FeedState} (h : st.Timed) (hm : st ≠ .mismatch) : st.gone = false := by
  rcases h with h | h | h
  · rw [h]; rfl
  · rw [h]; rfl
  · exact absurd h hm

theorem Feed.applyVerdict_bad_state (f : Feed) (st : Standard) (h : f.state.Timed) :
    (f.applyVerdict st .bad).state.Timed ∧ (f.state = .mismatch → (f.applyVerdict st .bad).state = .mismatch) := by
  rcases h with h | h | h
  · rw [f.applyVerdict_acquire st _ h, Feed.acquireVerdict, Feed.raiseChange_frame]
    dsimp only
    split
    · exact ⟨.inr (.inr rfl), fun _ => rfl⟩
    · exact ⟨.inl h, fun hm => by rw [h] at hm; exact absurd hm (by decide)⟩
  · rw [f.applyVerdict_locked st _ h, Feed.lockedVerdict, Feed.raiseChange_frame]
    dsimp only
    split
    · exact ⟨.inl rfl, fun hm => by rw [h] at hm; exact absurd hm (by decide)⟩
    · exact ⟨.inr (.inl h), fun hm => by rw [h] at hm; exact absurd hm (by decide)⟩
  · rw [f.applyVerdict_mismatch st _ h, Feed.mismatchVerdict, Feed.raiseChange_frame]
    exact ⟨.inr (.inr h), fun _ => h⟩

/-- The feed as a start that truncates the picture in flight leaves it but for the storing of its own (R24, R25). -/
theorem State.startedFeed_truncating (s : State) (f : FeedId) (st : Standard) (tick last : Tick)
    (hflight : (s.feed f).inFlight = true) (hlast : (s.feed f).lastStart = some last)
    (htimed : (s.feed f).state.Timed) :
    s.startedFeed f st tick =
      { s.feed f with
        state := ((s.feed f).applyVerdict st .bad).state, goodRun := ((s.feed f).applyVerdict st .bad).goodRun
        rejectRun := ((s.feed f).applyVerdict st .bad).rejectRun
        badRun := ((s.feed f).applyVerdict st .bad).badRun, rejects := ((s.feed f).applyVerdict st .bad).rejects
        damaged := min 65535 ((s.feed f).damaged + 1), nextSeq := (s.feed f).nextSeq + 1
        measurement := some (tick - last), lastStart := some tick, writing := none
        events := (s.feed f).events ||| 0x4 |||
          (if ((s.feed f).applyVerdict st .bad).state = (s.feed f).state then 0 else 0x1) } := by
  have hafter := ((s.feed f).applyVerdict_bad_state st htimed).1
  have hnot : ¬(((s.feed f).applyVerdict st .bad).state = .empty ∨
      ((s.feed f).applyVerdict st .bad).state = .lost) := by
    rcases hafter with h | h | h <;> rw [h] <;> decide
  have hempty : ¬((s.feed f).applyVerdict st .bad).state = .empty := fun h => hnot (.inl h)
  have hlike := Feed.applyVerdict_like (s.feed f) (s.feed f).abandoned st .bad rfl rfl rfl rfl rfl
  rw [if_neg (fun h => absurd h.2 (by decide))] at hlike
  rw [State.startedFeed, State.truncate_feed, if_pos hflight, hlike, Feed.enterAcquire_eq, Feed.measure, hlast]
  dsimp only
  rw [if_neg hnot, if_neg hempty, if_neg hnot, if_neg hnot, if_neg hnot, if_neg hnot]
  simp only [Feed.takeStart, Feed.abandoned, hflight, if_true, Option.map_some, BitVec.ofNat_eq_ofNat, BitVec.or_zero]

/-- Settles O39: the ignored start, the runt, and the truncation (`State.startedFeed_truncating`) with the new picture's
storing. -/
theorem runtsAndTruncations : Obligations.RuntsAndTruncations := by
  refine ⟨fun s f tick bottom hsummary hst => ?_, fun s f st tick last bottom hst hlast hlt => ?_, ?_⟩
  · have hsame : s.pictureStart f tick bottom = s := by
      unfold State.pictureStart
      rw [hst]
    show Host.Outcome.next (s.pictureStart f tick bottom).notify = .next s
    rw [hsame, State.notify_eq_self s hsummary]
  · have hrunt : s.pictureStart f tick bottom = s.runt f := by
      unfold State.pictureStart
      rw [hst]
      exact if_pos ((Feed.runtStart_iff _ _ _).2 ⟨last, hlast, hlt⟩)
    refine ⟨(s.runt f).notify, congrArg (fun t => Host.Outcome.next (State.notify t)) hrunt, rfl,
      State.notify_notified s _ rfl⟩
  · intro s f st tick last bottom g stores free events hfeeds hst hflight hlast hlate hg hstores hfree hevents
    have htimed : (s.feed f).state.Timed := (hfeeds f).lastStart.1 ((hfeeds f).flight hflight)
    obtain ⟨hgtimed, hgmismatch⟩ := (s.feed f).applyVerdict_bad_state st htimed
    have hstarted := s.startedFeed_truncating f st tick last hflight hlast htimed
    rw [← hg] at hgtimed hgmismatch hstarted
    rw [← hevents] at hstarted
    have hrunt : (s.feed f).runtStart st tick = false := by
      rw [Bool.eq_false_iff, Ne, Feed.runtStart_iff]
      rintro ⟨last', hlast', hlt⟩
      rw [hlast, Option.some.injEq] at hlast'
      subst hlast'
      omega
    have hstartedState : (s.startedFeed f st tick).state = g.state := by rw [hstarted]
    have hcases : (s.feed f).state = .mismatch ∨ g.state ≠ .mismatch →
        g.state = (s.feed f).state ∨ ((s.feed f).state.gone = false ∧ g.state.gone = false) := fun h => by
      by_cases hm : (s.feed f).state = .mismatch
      · exact .inl ((hgmismatch hm).trans hm.symm)
      · have hg := h.resolve_left hm
        exact .inr ⟨htimed.not_gone hm, hgtimed.not_gone hg⟩
    have hslots : s.truncatedSlots f = SlotTable.handBack s.slots (s.feed f).writing := if_pos hflight
    have hstoring : (s.startPicture f st tick (st.startParity bottom)).storesStart f = stores := by
      rw [Bool.eq_iff_iff, hstores, State.startPicture_storesStart, hstarted, Bool.and_eq_true, State.hasTaker_iff]
      simp
    have hback : ∀ k, tget (s.truncatedSlots f) k =
        if (s.feed f).writing = some k then { s.slot k with state := .free, hold := 0, pin := 0 } else s.slot k :=
      fun k => by rw [hslots, SlotTable.handBack_slot]; rfl
    have hfreeSlot : ∀ k, k.val / 16 = f.val →
        (((s.startPicture f st tick (st.startParity bottom)).slot k).state = .free ↔ free k) := fun k hk => by
      rw [State.startPicture_slot, hback, hfree]
      by_cases hw : (s.feed f).writing = some k
      · simp [hw, hk]
      · simp [hw, hk]
    obtain ⟨honly, hnotified⟩ := s.acceptStart_notify_only f st tick (st.startParity bottom)
    have hfeed := fun g => s.acceptStart_feed f g st tick (st.startParity bottom)
    have hport := fun g => s.acceptStart_feedPort f g st tick (st.startParity bottom)
    refine ⟨_, exec_pictureStart_accepted s f st tick bottom hst hrunt, honly, hnotified, fun h hh => ⟨?_, ?_⟩, ?_, ?_,
      fun hno => ?_, fun k hyes hk hfirst => ?_, fun hyes hfull => ?_, fun j => ?_, fun k hk => ?_,
      fun k hk => ⟨?_, fun hw => ?_, fun hw hstay => ?_⟩⟩
    · rw [hfeed, s.started_other f h st tick _ (Ne.symm hh)]
    · rw [hport, if_neg (Ne.symm hh)]
    · rw [hfeed]
      refine (s.started_feed f st tick _).trans ?_
      rw [hstarted]
    · rw [hport, if_pos rfl]
      rfl
    · rw [hno] at hstoring
      obtain ⟨hf, -⟩ := s.started_of_not f st tick _ hstoring
      rw [hfeed, hf, hstarted]
      exact ⟨rfl, rfl, rfl⟩
    · rw [hyes] at hstoring
      have hkf := ((hfree k).1 hk).1
      obtain ⟨hf, -⟩ := s.started_of_some f st tick _ k hstoring (State.freeSlot_eq_some _ f k hkf
        ((hfreeSlot k hkf).2 hk) (fun j hj hjf h => hfirst j hj ((hfreeSlot j hjf).1 h)))
      rw [hfeed, hf, hstarted]
      exact ⟨rfl, rfl, rfl⟩
    · rw [hyes] at hstoring
      obtain ⟨hf, -⟩ := s.started_of_none f st tick _ hstoring (State.freeSlot_eq_none _ f
        fun j hj h => hfull j ((hfreeSlot j hj).1 h))
      rw [hfeed, hf, hstarted]
      exact ⟨rfl, rfl, rfl⟩
    · rw [State.acceptStart_notify_route, hstartedState]
      by_cases hmismatch : (s.feed f).state ≠ .mismatch ∧ g.state = .mismatch
      · have hmoved : (s.feed f).state ≠ g.state := fun h => hmismatch.1 (h.trans hmismatch.2)
        rw [Route.afterChange_loss _ _ _ _ hmoved (by rw [hmismatch.2]; rfl), Route.afterLoss_eq]
        simp only [hmismatch, not_false_eq_true, ne_eq, true_and]
      · rw [if_neg fun h => hmismatch ⟨h.2.1, h.2.2.1⟩]
        rcases hcases (by_contra fun h => hmismatch ⟨fun hm => h (.inl hm), by_contra fun hm => h (.inr hm)⟩) with
          h | ⟨hold, hnew⟩
        · rw [h]
          exact if_pos rfl
        · exact Route.afterChange_none _ _ _ _ hold hnew
    · rw [hfeed] at hk
      rw [s.acceptStart_stored f st tick _ k hk, hport, if_pos rfl]
      rfl
    · rw [hfeed] at hk
      have hother := s.started_slot f st tick (st.startParity bottom) k
      rw [if_neg hk] at hother
      have hkept : SlotTable.KeepsRecords s.slots (s.truncatedSlots f) := by
        rw [hslots]
        exact SlotTable.keepsRecords_handBack _ _
      have h := s.acceptStart_keepsRecords f st tick (st.startParity bottom) k
      rw [show tget (s.started f st tick (st.startParity bottom)).slots k = tget (s.truncatedSlots f) k from hother,
        hkept k] at h
      exact h
    · rw [hfeed] at hk
      have hother := s.started_slot f st tick (st.startParity bottom) k
      rw [if_neg hk, hback, if_pos hw] at hother
      rw [State.acceptStart_idle s f st tick _ k (by rw [hother]) (by rw [hother]; simp), hother]
      exact ⟨rfl, rfl, rfl⟩
    · rw [hfeed] at hk
      have hother := s.started_slot f st tick (st.startParity bottom) k
      rw [if_neg hk, hback, if_neg hw] at hother
      have hkept := s.acceptStart_slots_kept f st tick (st.startParity bottom) (by
        rw [hstartedState]
        exact hcases hstay)
      exact (congrArg (fun t => tget t k) hkept).trans hother

end Sys2Proof.Machine

/-! The end of a picture (R27 to R32, R44 to R46, R66, R67, R78 to R80, R94). -/

namespace Sys2Proof.Machine

/-! ## The verdict and the feed (R27 to R32) -/

theorem verdictOf_eq (st : Standard) (lineCount : Nat) (measurement : Option Tick) (v : Verdict)
    (h : (lineCount ≠ st.lines ∧ v = .bad) ∨ (lineCount = st.lines ∧ measurement = none ∧ v = .neutral) ∨
      (lineCount = st.lines ∧ ∃ m, measurement = some m ∧
        v = if (m.toNat : Int) - st.nominal ≤ (st.nominal / 16 : Nat) ∧
            (st.nominal : Int) - m.toNat ≤ (st.nominal / 16 : Nat) then .good else .bad)) :
    verdictOf st lineCount measurement = v := by
  unfold verdictOf
  rcases h with ⟨hlines, rfl⟩ | ⟨hlines, rfl, rfl⟩ | ⟨hlines, m, rfl, rfl⟩
  · exact if_pos hlines
  · rw [if_neg (not_not.2 hlines)]
  · rw [if_neg (not_not.2 hlines)]
    have hwindow : inWindow st m = true ↔ (m.toNat : Int) - st.nominal ≤ (st.nominal / 16 : Nat) ∧
        (st.nominal : Int) - m.toNat ≤ (st.nominal / 16 : Nat) := by
      unfold inWindow
      rw [Bool.and_eq_true, decide_eq_true_iff, decide_eq_true_iff]
      omega
    simp only [hwindow]

theorem Feed.endPicture_eq (f : Feed) (v : Verdict) (damaged : Bool) :
    f.endPicture v damaged =
      { f with
        pictures := if v = .good then f.pictures + 1 else f.pictures
        damaged := if damaged then min 65535 (f.damaged + 1) else f.damaged
        events := f.events ||| (if damaged then 0x4 else 0)
        inFlight := false, measurement := none, writing := none } := by
  unfold Feed.endPicture
  cases damaged
  · simp
  · rfl

theorem Feed.filter_frame (f : Feed) (k : Nat) (v : Verdict) (m : Option Tick) :
    f.filter k v m = { f with period := (f.filter k v m).period } := by
  unfold Feed.filter
  split
  · split <;> rfl
  · rfl

theorem Feed.filter_of_tracks (f : Feed) (k : Nat) (m : Tick) (hstate : f.state = .acquire ∨ f.state = .locked)
    (hprofile : f.profile = .track) (hfreeze : f.freeze = false) :
    (f.filter k .good (some m)).period = trackedPeriod f.period k m := by
  have htracks : f.tracks .good = true := by
    unfold Feed.tracks
    rw [hprofile, hfreeze]
    rcases hstate with h | h <;> rw [h] <;> rfl
  unfold Feed.filter
  dsimp only
  rw [if_pos htracks]

theorem Feed.filter_of_not_tracks (f : Feed) (k : Nat) (v : Verdict) (m : Option Tick)
    (h : v ≠ .good ∨ f.profile = .nominal ∨ f.freeze = true) : (f.filter k v m).period = f.period := by
  have htracks : f.tracks v = false := by
    unfold Feed.tracks
    rcases h with h | h | h
    · rw [beq_eq_false_iff_ne.2 h]
      rfl
    · rw [h]
      simp
    · rw [h]
      simp
  unfold Feed.filter
  split
  · rw [htracks]
    rfl
  · rfl

theorem Feed.filter_period_like (f h : Feed) (k : Nat) (v : Verdict) (m : Option Tick) (hperiod : h.period = f.period)
    (htracks : h.tracks v = f.tracks v) : (h.filter k v m).period = (f.filter k v m).period := by
  unfold Feed.filter
  cases m with
  | none => exact hperiod
  | some x =>
    dsimp only
    rw [htracks]
    split
    · exact congrArg (fun e => trackedPeriod e k x) hperiod
    · exact hperiod

theorem trackedPeriod_cast (e k : Nat) (m : Tick) :
    (trackedPeriod e k m : Int) = e + (256 * (m.toNat : Int) - e).tdiv (k : Int) := by
  have h := Int.tdiv_natCast_between (256 * (m.toNat : Int) - e) k
  unfold trackedPeriod
  rw [Int.toNat_of_nonneg]
  omega

/-- What a verdict can do to a feed's state (R29 to R31). -/
theorem Feed.applyVerdict_state_cases (f : Feed) (st : Standard) (v : Verdict) :
    (f.applyVerdict st v).state = f.state ∨ (f.state ≠ .mismatch ∧ (f.applyVerdict st v).state = .mismatch) ∨
      (f.state = .mismatch ∧ v = .good) ∨ (f.state.gone = false ∧ (f.applyVerdict st v).state.gone = false) := by
  cases hs : f.state
  case acquire =>
    rw [f.applyVerdict_acquire st v hs, Feed.raiseChange_frame]
    unfold Feed.acquireVerdict
    cases v <;> dsimp only
    · split
      · exact .inr (.inr (.inr ⟨rfl, rfl⟩))
      · exact .inl hs
    · split
      · exact .inr (.inl ⟨by decide, rfl⟩)
      · exact .inl hs
    · exact .inl hs
  case locked =>
    rw [f.applyVerdict_locked st v hs, Feed.raiseChange_frame]
    unfold Feed.lockedVerdict
    cases v <;> dsimp only
    · exact .inl hs
    · split
      · exact .inr (.inr (.inr ⟨rfl, rfl⟩))
      · exact .inl hs
    · exact .inl hs
  case mismatch =>
    rw [f.applyVerdict_mismatch st v hs, Feed.raiseChange_frame]
    unfold Feed.mismatchVerdict
    cases v
    · exact .inr (.inr (.inl ⟨rfl, rfl⟩))
    · exact .inl hs
    · exact .inl hs
  all_goals
    unfold Feed.applyVerdict
    rw [hs]
    dsimp only
    rw [Feed.raiseChange_same f _ hs]
    exact .inl hs

/-- The feed's record after its picture's end, in the terms of the record before it. -/
theorem State.judged_eq (s : State) (f : FeedId) (st : Standard) (v : Verdict) (g : Feed)
    (hv : s.verdict f st = v) (hg : g = (s.feed f).applyVerdict st v) :
    s.judged f st =
      { s.feed f with
        state := g.state, goodRun := g.goodRun, rejectRun := g.rejectRun, badRun := g.badRun, rejects := g.rejects
        pictures := if v = .good then (s.feed f).pictures + 1 else (s.feed f).pictures
        damaged := if (s.feedPort f).lineCount = st.lines then (s.feed f).damaged
          else min 65535 ((s.feed f).damaged + 1)
        events := (s.feed f).events ||| (if (s.feedPort f).lineCount = st.lines then 0 else 0x4) |||
          (if g.state = (s.feed f).state then 0 else 0x1)
        inFlight := false, measurement := none, writing := none
        period := if (s.feed f).state = .mismatch ∧ v = .good then 256 * st.nominal
          else ((s.feed f).filter (tget s.trackK (s.feed f).trackSlot) v (s.feed f).measurement).period } := by
  have hcounted : s.counted f st =
      { s.feed f with
        pictures := if v = .good then (s.feed f).pictures + 1 else (s.feed f).pictures
        damaged := if (s.feedPort f).lineCount = st.lines then (s.feed f).damaged
          else min 65535 ((s.feed f).damaged + 1)
        events := (s.feed f).events ||| (if (s.feedPort f).lineCount = st.lines then 0 else 0x4)
        inFlight := false, measurement := none, writing := none } := by
    rw [State.counted, Feed.endPicture_eq, hv]
    by_cases h : (s.feedPort f).lineCount = st.lines <;> simp [h]
  have hperiod : ∀ k m, ((s.counted f st).filter k v m).period = ((s.feed f).filter k v m).period := by
    intro k m
    exact Feed.filter_period_like _ _ k v m (by rw [hcounted]) (by rw [hcounted]; rfl)
  have hk : s.trackConstant (s.counted f st) = tget s.trackK (s.feed f).trackSlot := by
    rw [hcounted]
    rfl
  subst hg
  unfold State.judged
  rw [hv, Feed.filter_frame, hperiod, hk, hcounted]
  generalize Feed.period (Feed.filter _ _ _ _) = period
  exact Feed.applyVerdict_like (s.feed f) _ st v rfl rfl rfl rfl rfl

/-! ## A picture end whose slot is not offered -/

theorem exec_pictureEnd_framed (s : State) (f : FeedId) (st : Standard) (hst : (s.feed f).standard = some st)
    (hflight : (s.feed f).inFlight = true) (hframing : (s.feedPort f).framing = .accepted) :
    exec (.pictureEnd f) s = .next (s.endFlight f st).notify := by
  show Host.Outcome.next (s.pictureEnd f).notify = _
  unfold State.pictureEnd
  rw [hst]
  dsimp only
  rw [if_pos ((s.framed_iff f).2 ⟨hflight, hframing⟩)]

theorem State.pictureEnd_unframed (s : State) (f : FeedId)
    (h : (s.feed f).standard = none ∨ (s.feed f).inFlight = false ∨ (s.feedPort f).framing ≠ .accepted) :
    s.pictureEnd f = s.setFeedPort f { s.feedPort f with framing := .none } := by
  unfold State.pictureEnd
  split
  · rfl
  · next st hst =>
    rw [if_neg]
    rw [s.framed_iff f]
    rintro ⟨hflight, hframing⟩
    rcases h with h | h | h
    · rw [h] at hst
      exact absurd hst (by simp)
    · rw [h] at hflight
      exact absurd hflight Bool.false_ne_true
    · exact h hframing

/-- With no slot offered, no turn of the routes touches the Slot Table. -/
theorem State.offer_none_slots (s : State) (f : FeedId) (st : Standard) (seq : BitVec 32) (matched : Bool) :
    (s.offer f st seq matched none).slots = s.slots := by
  refine State.overRoutes_induct (fun u => u.slots = s.slots) _ s rfl fun u i hu => ?_
  show (Route.pictureEnd f st seq matched none i (u.route i) u.slots).2 = s.slots
  unfold Route.pictureEnd
  split <;> exact hu

theorem Route.cadenceStep_state (r : Route) (st : Standard) (matched : Bool) :
    (r.cadenceStep st matched).1.state = r.state ∧ (r.cadenceStep st matched).1.feed = r.feed := by
  rw [Route.cadenceStep_frame]
  exact ⟨rfl, rfl⟩

theorem RouteState.taking_iff (x : RouteState) : x.taking = true ↔ x = .priming ∨ x = .running ∨ x = .held := by
  cases x <;> simp [RouteState.taking]

theorem Route.afterPicture_none (r : Route) (f : FeedId) (st : Standard) (seq : BitVec 32) (matched : Bool)
    (hf : r.feed = f) :
    r.afterPicture f st seq matched none =
      if r.state = .priming ∨ r.state = .running ∨ r.state = .held then (r.cadenceStep st matched).1 else r := by
  unfold Route.afterPicture
  simp only [RouteState.taking_iff, hf, true_and]

theorem Route.afterPicture_other (r : Route) (f : FeedId) (st : Standard) (seq : BitVec 32) (matched : Bool)
    (offer : Option SlotId) (hf : r.feed ≠ f) : r.afterPicture f st seq matched offer = r :=
  if_neg fun h => hf h.1

theorem Route.afterChange_other (r : Route) (f : FeedId) (old new : FeedState) (hf : r.feed ≠ f) :
    r.afterChange f old new = r := by
  unfold Route.afterChange Route.afterLoss Route.afterReturn
  simp [hf]

/-- What a verdict's change of the feed's state makes of a record of the feed (R66, R67). -/
theorem Route.afterChange_verdict (r : Route) (f : Feed) (h : FeedId) (st : Standard) (v : Verdict) :
    r.afterChange h f.state (f.applyVerdict st v).state =
      if f.state ≠ .mismatch ∧ (f.applyVerdict st v).state = .mismatch ∧ (r.state = .priming ∨ r.state = .running) then
        r.afterLoss h
      else if f.state = .mismatch ∧ v = .good ∧ (r.state = .starved ∨ r.state = .lapsed ∨ r.state = .held) then
        r.afterReturn h
      else r := by
  by_cases hgood : f.state = .mismatch ∧ v = .good
  · obtain ⟨hold, rfl⟩ := hgood
    have hnew : (f.applyVerdict st .good).state = .acquire := by
      rw [f.applyVerdict_mismatch st _ hold, Feed.raiseChange_frame]
      rfl
    rw [hnew, hold, Route.afterChange_return _ _ _ rfl, if_neg (fun h => h.1 rfl)]
    by_cases hs : r.state = .starved ∨ r.state = .lapsed ∨ r.state = .held
    · rw [if_pos ⟨rfl, rfl, hs⟩]
    · rw [if_neg fun h => hs h.2.2, Route.afterReturn_eq, if_neg fun h => hs h.2]
  · rw [if_neg (c := f.state = .mismatch ∧ v = .good ∧ _) (fun h => hgood ⟨h.1, h.2.1⟩)]
    by_cases hloss : f.state ≠ .mismatch ∧ (f.applyVerdict st v).state = .mismatch
    · rw [hloss.2, Route.afterChange_loss _ _ _ _ hloss.1 rfl]
      by_cases hs : r.state = .priming ∨ r.state = .running
      · rw [if_pos ⟨hloss.1, rfl, hs⟩]
      · rw [if_neg fun h => hs h.2.2, Route.afterLoss_eq, if_neg fun h => hs h.2]
    · rw [if_neg fun h => hloss ⟨h.1, h.2.1⟩]
      rcases f.applyVerdict_state_cases st v with h | h | h | ⟨hold, hnew⟩
      · rw [h]
        exact if_pos rfl
      · exact absurd h hloss
      · exact absurd h hgood
      · exact Route.afterChange_none _ _ _ _ hold hnew

theorem State.judgeFeed_idle (s : State) (f : FeedId) (st : Standard) (v : Verdict) (m : Option Tick) (k : SlotId)
    (hold : (s.slot k).hold = 0) (state : (s.slot k).state ≠ .ready) :
    (s.judgeFeed f st v m).slot k = s.slot k := by
  rw [State.judgeFeed_eq]
  exact State.feedChanged_idle (s.setFeed f _) f _ _ k hold state

/-- A slot that a bad or neutral picture wrote is FREE after its end (R44). -/
theorem State.endFlight_released (s : State) (f : FeedId) (st : Standard) (k : SlotId) (hv : s.verdict f st ≠ .good)
    (hk : (s.feed f).writing = some k) :
    (s.endFlight f st).slot k = { s.slot k with state := .free, hold := 0, pin := 0 } := by
  have hoffer : offeredSlot (s.feed f).writing (s.verdict f st) = none := if_neg hv
  have hclosed : (s.offered f st).slot k = { s.slot k with state := .free, hold := 0, pin := 0 } := by
    have hslots : (s.offered f st).slots = (s.closePicture f st (s.verdict f st)).slots := by
      unfold State.offered
      rw [hoffer, State.offer_none_slots]
    refine (congrArg (fun t => tget t k) hslots).trans ?_
    show tget (SlotTable.endWriting s.slots (s.feed f).writing (s.verdict f st) st (s.feedPort f)) k = _
    rw [hk, SlotTable.endWriting, if_neg hv, SlotTable.release_slot, if_pos rfl]
    rfl
  refine (congrArg (fun t => tget t k) (s.endFlight_slots f st)).trans ?_
  rw [hoffer]
  refine Eq.trans ((s.offered f st).judgeFeed_idle f st _ _ k ?_ ?_) hclosed <;> rw [hclosed]
  simp

theorem State.endFlight_otherSlot (s : State) (f : FeedId) (st : Standard) (k : SlotId)
    (hk : (s.feed f).writing ≠ some k) :
    (s.endFlight f st).slot k = { s.slot k with
      state := ((s.endFlight f st).slot k).state, hold := ((s.endFlight f st).slot k).hold
      pin := ((s.endFlight f st).slot k).pin } := by
  have hclosed : tget (s.closePicture f st (s.verdict f st)).slots k = s.slot k := by
    show tget (SlotTable.endWriting s.slots (s.feed f).writing (s.verdict f st) st (s.feedPort f)) k = _
    unfold SlotTable.endWriting
    split
    · next i hi =>
      have hik : i ≠ k := fun h => hk (h ▸ hi)
      split
      · exact tget_tset_ne _ _ _ _ hik
      · exact (SlotTable.release_slot _ _ _).trans (if_neg hik)
    · rfl
  have h := s.endFlight_keepsRecords f st k
  rw [hclosed] at h
  exact h

theorem State.endFlight_feedPort (s : State) (f : FeedId) (st : Standard) (g : FeedId) :
    (s.endFlight f st).feedPort g =
      if f = g then
        { s.feedPort f with
          framing := .none
          refs := if (s.feedPort f).refs.length < 2 then (s.feedPort f).refs ++ [paddedGrid (s.feedPort f).rows]
            else (s.feedPort f).refs.drop 1 ++ [paddedGrid (s.feedPort f).rows] }
      else s.feedPort g := by
  show tget (s.endFlight f st).feedPorts g = _
  rw [State.endFlight_feedPorts]
  exact tget_tset _ _ _ _

/-- Settles O42: the feed by `State.judged_eq`, the routes by the Route Manager's rule, the slots by
`State.endFlight_released` and `State.endFlight_otherSlot`. -/
theorem pictureEndsGetTheirVerdict : Obligations.PictureEndsGetTheirVerdict := by
  refine ⟨fun s f hsummary hno => ?_, fun s f st v grid g matched hst hflight hframing hv hgrid hg hmatched => ?_⟩
  · have hsame : (s.pictureEnd f).notify = s.pictureEnd f := by
      rw [s.pictureEnd_unframed f hno]
      exact State.notify_eq_self _ (hsummary.congr rfl rfl rfl)
    show Host.Outcome.next (s.pictureEnd f).notify = _
    rw [hsame, s.pictureEnd_unframed f hno]
    rfl
  have hverdict : s.verdict f st = v := verdictOf_eq st _ _ v hv
  have hmatch : s.matched f st = matched := by
    rw [hmatched, hgrid]
    rfl
  have hjudged := s.judged_eq f st v g hverdict hg
  have honly := s.endFlight_only f st
  have hfeed := s.endFlight_feed f st
  have hport := s.endFlight_feedPort f st
  have hmonitor := s.endFlight_monitor f st
  have hroute := s.endFlight_route f st
  have hreleased := s.endFlight_released f st
  have hother := s.endFlight_otherSlot f st
  have hexec := exec_pictureEnd_framed s f st hst hflight hframing
  rw [hverdict] at hmonitor hroute hreleased
  rw [hmatch] at hroute
  generalize s.endFlight f st = t at honly hfeed hport hmonitor hroute hreleased hother hexec
  have hself : t.notify.feed f = s.judged f st := (hfeed f).trans (if_pos rfl)
  have hnone : v ≠ .good ∨ (s.feed f).writing = none → offeredSlot (s.feed f).writing v = none := by
    rintro (h | h)
    · exact if_neg h
    · rw [h]
      exact ite_self _
  refine ⟨_, hexec, ?_, State.notify_notified s _ ?_, fun h hh => ⟨?_, ?_⟩,
    ?_, ?_, fun m hm hgood hstate hprofile hfreeze => ?_, fun hgood hstate => ?_, fun h => ?_, fun k hbad hk => ?_,
    fun k hk => hother k hk, fun h => ?_, fun j hj => ?_, fun j r hj h hr => ?_⟩
  · rw [honly]
    rfl
  · rw [honly]
  · exact (hfeed h).trans (if_neg (Ne.symm hh))
  · exact (hport h).trans (if_neg (Ne.symm hh))
  · rw [hgrid]
    exact (hport f).trans (if_pos rfl)
  · rw [hself]
    conv_lhs => rw [hjudged]
    rw [congrArg Feed.period hjudged]
  · have hnot : ¬((s.feed f).state = .mismatch ∧ v = .good) := fun h => by
      rw [h.1] at hstate
      exact absurd hstate (by decide)
    rw [hself, congrArg Feed.period hjudged, if_neg hnot, hm, hgood,
      Feed.filter_of_tracks _ _ _ hstate hprofile hfreeze,
      trackedPeriod_cast]
  · rw [hself, congrArg Feed.period hjudged, if_pos ⟨hstate, hgood⟩]
  · rw [hself, congrArg Feed.period hjudged, if_neg, Feed.filter_of_not_tracks]
    · exact h.imp_right And.right
    · rintro ⟨hstate, hgood⟩
      exact h.elim (fun h => h hgood) fun h => h.1 hstate
  · have h := hreleased k hbad hk
    rw [show t.notify.slot k = t.slot k from rfl, h]
    exact ⟨rfl, rfl, rfl⟩
  · refine hmonitor.trans ?_
    rw [hnone h]
    rfl
  · refine (hroute j).trans ?_
    rw [Route.afterPicture_other _ _ _ _ _ _ hj, Route.afterChange_other _ _ _ _ hj]
  · refine (hroute j).trans ?_
    have hpicture : (s.route j).afterPicture f st (s.feed f).flightSeq matched none = r :=
      (Route.afterPicture_none _ f st _ matched hj).trans hr.symm
    have hfeedr : r.feed = f := by
      rw [hr]
      split
      · exact (Route.cadenceStep_state _ st matched).2.trans hj
      · exact hj
    rw [hnone h, hpicture, congrArg Feed.state hjudged, hg, Route.afterChange_verdict r _ f st v, Route.afterLoss_eq,
      Route.afterReturn_eq]
    split
    · next h => rw [if_pos ⟨hfeedr, h.2.2⟩]
    · split
      · next h => rw [if_pos ⟨hfeedr, h.2.2⟩]
      · rfl

end Sys2Proof.Machine

/-! A good picture's offer (R45, R46, R78 to R80, R144). -/

namespace Sys2Proof.Machine

/-- A change between states that are neither LOST nor MISMATCH does nothing. -/
theorem State.feedChanged_present (s : State) (f : FeedId) (old new : FeedState) (hold : old.gone = false)
    (hnew : new.gone = false) : s.feedChanged f old new = s := by
  unfold State.feedChanged
  rw [hold, hnew]
  simp

theorem Feed.applyVerdict_good_present (f : Feed) (st : Standard) (h : f.state = .acquire ∨ f.state = .locked) :
    (f.applyVerdict st .good).state.gone = false := by
  rcases f.applyVerdict_state_cases st .good with hs | hs | hs | hs
  · rw [hs]
    rcases h with h | h <;> rw [h] <;> rfl
  · rcases h with h | h
    · have hstate := hs.2
      rw [f.applyVerdict_acquire st _ h, Feed.raiseChange_frame] at hstate
      unfold Feed.acquireVerdict at hstate
      dsimp only at hstate
      split at hstate
      · exact absurd hstate (by simp)
      · exact absurd (hstate.symm.trans h) (by simp)
    · have hstate := hs.2
      rw [f.applyVerdict_locked st _ h, Feed.raiseChange_frame] at hstate
      exact absurd (hstate.symm.trans h) (by simp)
  · rcases h with h | h <;> rw [h] at hs <;> exact absurd hs.1 (by simp)
  · exact hs.2

theorem State.offerMonitorAny_slot_pin (s : State) (f : FeedId) (o : Option SlotId) (k : SlotId) :
    ((s.offerMonitorAny f o).slot k).pin = (s.slot k).pin := by
  unfold State.offerMonitorAny State.offerMonitor
  split
  · next i =>
    split
    · split
      · show (tget (match s.monitor.latest with
            | some old => SlotTable.unhold (SlotTable.hold s.slots i) old
            | none => SlotTable.hold s.slots i) k).pin = _
        split
        · next old _ => exact (SlotTable.unholdAll_pin _ [old] k).trans (SlotTable.hold_count s.slots i k).2
        · exact (SlotTable.hold_count s.slots i k).2
      · rfl
    · rfl
    · rfl
  · rfl

theorem State.offered_pin (s : State) (f : FeedId) (st : Standard) (k : SlotId) :
    ((s.offered f st).slot k).pin = ((s.closePicture f st (s.verdict f st)).slot k).pin := by
  unfold State.offered State.offer
  generalize offeredSlot _ _ = o
  refine State.overRoutes_induct (fun u => (u.slot k).pin = ((s.closePicture f st (s.verdict f st)).slot k).pin) _ _
    (State.offerMonitorAny_slot_pin _ f o k) fun u i hu => ?_
  show (tget (Route.pictureEnd f st _ _ o i (u.route i) u.slots).2 k).pin = _
  unfold Route.pictureEnd
  split
  · dsimp only
    split
    · exact (SlotTable.unholdAll_pin _ _ k).trans ((SlotTable.hold_count u.slots _ k).2.trans hu)
    · exact hu
  · exact hu

theorem State.SlotsLaw.offered_ready {s : State} (hs : s.SlotsLaw none) (f : FeedId) (st : Standard) (k : SlotId)
    (hk : offeredSlot (s.feed f).writing (s.verdict f st) = some k) : ((s.offered f st).slot k).state = .ready := by
  have hoffer : (s.offered f st).Offering (offeredSlot (s.feed f).writing (s.verdict f st)) [] :=
    State.overRoutes_induct_left _ _ _ (hs.offering f st (s.verdict f st))
      fun u i l hi hu => hu.turn hi f st _ (s.matched f st)
  exact hoffer.ready k hk

/-- A READY slot no one pins is settled by its hold count alone (R49). -/
theorem Slot.settle_unpinned (x : Slot) (hready : x.state = .ready) (hpin : x.pin = 0) :
    x.settle = { x with state := if x.hold = 0 then .free else .ready } := by
  unfold Slot.settle
  by_cases h : x.hold = 0
  · rw [if_pos ⟨hready, h, hpin⟩, if_pos h]
  · rw [if_neg fun hall => h hall.2.1, if_neg h, ← hready]

/-- The slot of a good picture after its offer (R45, R46, R49). -/
theorem State.SlotsLaw.endFlight_completed {s : State} (hs : s.SlotsLaw none) (f : FeedId) (st : Standard) (k : SlotId)
    (hv : s.verdict f st = .good) (hstate : (s.feed f).state = .acquire ∨ (s.feed f).state = .locked)
    (hk : (s.feed f).writing = some k) :
    (s.endFlight f st).slot k = { s.slot k with
      parity := (s.feedPort f).parity, timecode := (s.feedPort f).timecode.filter st.validTimecode
      packets := (s.feedPort f).packets, hold := ((s.endFlight f st).slot k).hold
      state := if ((s.endFlight f st).slot k).hold = 0 then .free else .ready } := by
  have hoffer : offeredSlot (s.feed f).writing (s.verdict f st) = some k := (if_pos hv).trans hk
  have hclosed : (s.closePicture f st (s.verdict f st)).slot k =
      completedSlot (s.slot k) (s.feedPort f).parity ((s.feedPort f).timecode.filter st.validTimecode)
        (s.feedPort f).packets := by
    show tget (SlotTable.endWriting s.slots (s.feed f).writing (s.verdict f st) st (s.feedPort f)) k = _
    rw [hk, SlotTable.endWriting, if_pos hv, tget_tset_self]
    rfl
  have hpin : ((s.offered f st).slot k).pin = 0 := by
    rw [s.offered_pin f st k, hclosed]
    exact (hs.writing_counts f k hk).2
  have hready := hs.offered_ready f st k hoffer
  have hkeeps : SlotTable.KeepsRecords (s.closePicture f st (s.verdict f st)).slots (s.offered f st).slots :=
    (State.offerMonitorAny_keepsRecords _ _ _).trans
      (State.overRoutes_keepsRecords _ _ (Route.pictureEnd_keepsRecords f st _ _ _))
  have hrecord : (s.offered f st).slot k = { s.slot k with
      parity := (s.feedPort f).parity, timecode := (s.feedPort f).timecode.filter st.validTimecode
      packets := (s.feedPort f).packets, hold := ((s.offered f st).slot k).hold, state := .ready } := by
    have h := hkeeps k
    change (s.offered f st).slot k = { (s.closePicture f st (s.verdict f st)).slot k with
      state := ((s.offered f st).slot k).state, hold := ((s.offered f st).slot k).hold
      pin := ((s.offered f st).slot k).pin } at h
    rw [hclosed, hready, s.offered_pin f st k, hclosed] at h
    exact h
  have hjudged : ((s.offered f st).judgeFeed f st (s.verdict f st) (s.feed f).measurement).slots =
      (s.offered f st).slots := by
    have hnew : (s.judged f st).state.gone = false := by
      rw [congrArg Feed.state (s.judged_eq f st _ _ hv rfl)]
      exact Feed.applyVerdict_good_present _ st hstate
    have hold : ((s.offered f st).feed f).state.gone = false := by
      rw [State.offered_feed, if_pos rfl, State.counted, Feed.endPicture_state]
      rcases hstate with h | h <;> rw [h] <;> rfl
    rw [State.judgeFeed_eq, State.offered_newFeed, State.feedChanged_present _ _ _ _ hold hnew,
      State.setFeed_slots]
  have hslot : (s.endFlight f st).slot k = ((s.offered f st).slot k).settle := by
    refine (congrArg (fun t => tget t k) (s.endFlight_slots f st)).trans ?_
    rw [hoffer, hjudged]
    exact tget_tset_self _ _ _
  rw [Slot.settle_unpinned _ hready hpin] at hslot
  rw [congrArg Slot.hold hslot]
  conv_lhs => rw [hslot, hrecord]

/-- A good picture's end leaves a record as its picture left it: its feed is neither LOST nor in MISMATCH (R31). -/
theorem State.endFlight_route_present (s : State) (f : FeedId) (st : Standard) (j : RouteId)
    (hv : s.verdict f st = .good) (hstate : (s.feed f).state = .acquire ∨ (s.feed f).state = .locked) :
    (s.endFlight f st).route j =
      (s.route j).afterPicture f st (s.feed f).flightSeq (s.matched f st) (s.feed f).writing := by
  have hoffer : offeredSlot (s.feed f).writing (s.verdict f st) = (s.feed f).writing := if_pos hv
  have hnew : (s.judged f st).state.gone = false := by
    rw [congrArg Feed.state (s.judged_eq f st _ _ hv rfl)]
    exact Feed.applyVerdict_good_present _ st hstate
  have hold : (s.feed f).state.gone = false := by rcases hstate with h | h <;> rw [h] <;> rfl
  rw [State.endFlight_route, hoffer, Route.afterChange_none _ _ _ _ hold hnew]

/-- An admission, and the change from PRIMING to RUNNING with the second entry (R78 to R80, R61). -/
theorem Route.admit_eq (r : Route) (k : SlotId) (seq : BitVec 32) (n : Nat) (hn : n = r.window.length) :
    (r.admitEntry k seq).enterRunning =
      { r with
        window := (if n < 4 then r.window else r.window.drop 1) ++
          [{ slot := k, seq := seq, admitNumber := r.nextAdmit }]
        nextAdmit := r.nextAdmit + 1
        state := if r.state = .priming ∧ n = 1 then .running else r.state
        phase := if r.state = .priming ∧ n = 1 then 0 else if n < 4 then r.phase else max (-262144) (r.phase - 65536)
        error := if r.state = .priming ∧ n = 1 then 0 else r.error
        settled := if r.state = .priming ∧ n = 1 then false else r.settled || decide (n = 3) } := by
  subst hn
  have hwindow : appendWindow r.window { slot := k, seq := seq, admitNumber := r.nextAdmit } =
      (if r.window.length < 4 then r.window else r.window.drop 1) ++
        [{ slot := k, seq := seq, admitNumber := r.nextAdmit }] := by
    unfold appendWindow
    split <;> rfl
  have hcond : ((r.admitEntry k seq).state = .priming ∧ (r.admitEntry k seq).window.length = 2) ↔
      (r.state = .priming ∧ r.window.length = 1) := by
    show (r.state = .priming ∧ (appendWindow r.window _).length = 2) ↔ _
    rw [hwindow, List.length_append, List.length_singleton]
    refine and_congr_right fun _ => ?_
    split
    · omega
    · rw [List.length_drop]
      omega
  unfold Route.enterRunning
  by_cases h : r.state = .priming ∧ r.window.length = 1
  · rw [if_pos (hcond.2 h), if_pos h, if_pos h, if_pos h, if_pos h]
    unfold Route.admitEntry
    rw [hwindow]
  · rw [if_neg fun hc => h (hcond.1 hc), if_neg h, if_neg h, if_neg h, if_neg h]
    unfold Route.admitEntry
    rw [hwindow]
    rfl

theorem State.offerMonitor_eq (s : State) (f : FeedId) (k : SlotId) :
    (s.offerMonitor f k).monitor = { s.monitor with
      latest := if (∃ u, u ∈ [TimelineId.a, TimelineId.b] ∧ s.monitor.view = .feed f u) then some k
        else s.monitor.latest } := by
  unfold State.offerMonitor
  cases hview : s.monitor.view with
  | off => simp
  | port p => simp
  | feed g u =>
    by_cases hg : g = f
    · cases u <;> simp [hg]
    · simp [hg]

/-- Settles O43: the slot by `State.SlotsLaw.endFlight_completed`, the routes by `Route.admit_eq`. -/
theorem goodPicturesAreOffered : Obligations.GoodPicturesAreOffered := by
  intro s f st m k seq matched hslots hst hflight hframing hlines hm hlow hhigh hstate hk hseq hmatched
  have hlaw := (State.slotsLaw_none s).2 hslots
  have hv : s.verdict f st = .good :=
    verdictOf_eq st _ _ _ (.inr (.inr ⟨hlines, m, hm, (if_pos ⟨by omega, by omega⟩).symm⟩))
  have hmatch : s.matched f st = matched := by
    rw [hmatched, State.matched, hlines]
    rfl
  have hexec := exec_pictureEnd_framed s f st hst hflight hframing
  have hcompleted := hlaw.endFlight_completed f st k hv hstate hk
  have hother := s.endFlight_otherSlot f st
  have hmonitor := s.endFlight_monitor f st
  have hroute := fun j => s.endFlight_route_present f st j hv hstate
  rw [hv, show offeredSlot (s.feed f).writing .good = some k from hk] at hmonitor
  rw [hmatch, hk] at hroute
  generalize s.endFlight f st = t at hexec hcompleted hother hmonitor hroute
  refine ⟨_, hexec, hcompleted, fun j hj => hother j ?_, ?_, fun j hj => ?_, fun j r want n hj hs hr hn => ?_⟩
  · rw [hk]
    exact fun h => hj (Option.some.inj h).symm
  · exact hmonitor.trans ((s.closePicture f st .good).offerMonitor_eq f k)
  · refine (hroute j).trans (if_neg ?_)
    rw [RouteState.taking_iff]
    exact hj
  · refine (hroute j).trans ?_
    have hframe := Route.cadenceStep_frame (s.route j) st matched
    unfold Route.afterPicture
    rw [if_pos ⟨hj, (RouteState.taking_iff _).2 hs⟩]
    rw [← hr] at hframe ⊢
    cases want
    · rfl
    · dsimp only at hframe ⊢
      have hlength : n = r.window.length := by
        rw [hn, hframe]
      rw [if_neg (by decide), Route.admit_eq r k _ n hlength, hseq]
      rfl

end Sys2Proof.Machine

/-! FEED_SET, FEED_READ and TRACK_SET (R33 to R36). -/

namespace Sys2Proof.Machine

/-- A due command whose effect moves the blocks outside the Command Unit to those of `u`. -/
theorem take_spec_changed {ins : Instr} (k : CmdKind) (effect : List Word → State → State × Reply) (s u : State)
    (c : Command) (r : Reply) (hexec : exec ins s = .next (take k effect s)) (hdue : s.dueCommand = some c)
    (hkind : c.kind = k) (heffect : effect c.args s = (u, r)) (hcu : u.cu = s.cu) :
    ∃ t, exec ins s = .next t ∧ t = { u with cu := t.cu, device := t.device } ∧ Taken s t u.device c r :=
  ⟨_, hexec, take_spec k effect s u c r hdue hkind heffect hcu⟩

/-! ## The checks of FEED_SET (R35) -/

theorem feedProfileOfCode_eq (n : Nat) (h : n ≤ 1) :
    (feedProfileOfCode n).getD .track = if n = 1 then .nominal else .track := by
  match n, h with
  | 0, _ | 1, _ => rfl

theorem feedProfileOfCode_eq_none (n : Nat) : feedProfileOfCode n = none ↔ ¬n ≤ 1 := by
  match n with
  | 0 | 1 => simp [feedProfileOfCode]
  | n + 2 => simp [feedProfileOfCode]

theorem standardOfCode_isSome (n : Nat) (h : n ≤ 10) : (standardOfCode n).isSome = decide (n ≠ 0) := by
  interval_cases n <;> rfl

theorem feedSetStatus_eq_firstFailure (s : State) (q : FeedRequest) :
    feedSetStatus s q = firstFailure
      [(decide (q.feed < 8), .range), (decide (q.standard ≤ 10), .range), (decide (q.profile ≤ 1), .range),
       (decide (q.trackSlot ≤ 4), .range),
       (decide (standardOfCode q.standard = (s.feed q.feedId).standard ∨ (s.feed q.feedId).routeCount = 0),
        .feedInUse)] := by
  have hfeed : 8 ≤ q.feed ↔ ¬q.feed < 8 := Nat.not_lt.symm
  have hstandard : 11 ≤ q.standard ↔ ¬q.standard ≤ 10 := by omega
  have hslot : 5 ≤ q.trackSlot ↔ ¬q.trackSlot ≤ 4 := by omega
  have huse : (standardOfCode q.standard ≠ (s.feed q.feedId).standard ∧ (s.feed q.feedId).routeCount ≠ 0) ↔
      ¬(standardOfCode q.standard = (s.feed q.feedId).standard ∨ (s.feed q.feedId).routeCount = 0) := not_or.symm
  unfold feedSetStatus
  simp only [firstFailure_cons, firstFailure_nil, feedProfileOfCode_eq_none, hfeed, hstandard, hslot, huse, ite_not,
    decide_eq_true_eq]

/-! ## The effect of FEED_SET (R35) -/

theorem Feed.configure_pinNominal_eq (f : Feed) (q : FeedRequest) (h : q.profile ≤ 1) :
    (f.configure q).pinNominal =
      { f with
        profile := if q.profile = 1 then .nominal else .track
        trackSlot := Fin.ofNat 5 q.trackSlot, freeze := q.freeze, threshold := q.threshold
        period := if q.profile = 1 then (f.standard.map Standard.nominalPeriod).getD 0 else f.period } := by
  unfold Feed.configure
  rw [feedProfileOfCode_eq q.profile h]
  by_cases hp : q.profile = 1
  · rw [if_pos hp, if_pos hp]
    unfold Feed.pinNominal
    cases hst : f.standard <;> simp [Feed.atNominal]
  · rw [if_neg hp, if_neg hp]
    rfl

theorem Feed.raiseChange_eq (f : Feed) (old : FeedState) :
    f.raiseChange old = { f with events := f.events ||| (if old = f.state then 0 else 0x1) } := by
  unfold Feed.raiseChange
  by_cases h : f.state = old
  · rw [if_pos h, if_pos h.symm]
    simp
  · rw [if_neg h, if_neg (Ne.symm h)]
    rfl

/-- The record of a feed restarted with another standard (R35). -/
theorem Feed.restart_eq (f : Feed) (q : FeedRequest) (hprofile : q.profile ≤ 1) (hstandard : q.standard ≤ 10) :
    ((f.abandoned.configure q).restart (standardOfCode q.standard)) =
      { f with
        standard := standardOfCode q.standard
        profile := if q.profile = 1 then .nominal else .track
        trackSlot := Fin.ofNat 5 q.trackSlot, freeze := q.freeze, threshold := q.threshold
        state := if q.standard = 0 then .unconfigured else .empty
        period := ((standardOfCode q.standard).map Standard.nominalPeriod).getD 0
        lastStart := none, measurement := none, inFlight := false
        goodRun := 0, rejectRun := 0, badRun := 0
        writing := if f.inFlight then none else f.writing
        damaged := if f.inFlight then min 65535 (f.damaged + 1) else f.damaged
        events := f.events ||| (if f.inFlight then 0x4 else 0) |||
          (if f.state = (if q.standard = 0 then .unconfigured else .empty) then 0 else 0x1) } := by
  have hstate : (if (standardOfCode q.standard).isSome = true then FeedState.empty else FeedState.unconfigured) =
      if q.standard = 0 then .unconfigured else .empty := by
    rw [standardOfCode_isSome _ hstandard]
    by_cases h : q.standard = 0 <;> simp [h]
  unfold Feed.restart
  rw [Feed.raiseChange_eq]
  unfold Feed.configure Feed.abandoned
  rw [feedProfileOfCode_eq q.profile hprofile]
  dsimp only
  rw [hstate]

theorem State.applyFeedSet_same (s : State) (q : FeedRequest)
    (h : standardOfCode q.standard = (s.feed q.feedId).standard) :
    s.applyFeedSet q = s.setFeed q.feedId ((s.feed q.feedId).configure q).pinNominal := if_pos h

theorem State.applyFeedSet_restart (s : State) (q : FeedRequest)
    (h : standardOfCode q.standard ≠ (s.feed q.feedId).standard) :
    s.applyFeedSet q =
      { s with
        feeds := tset s.feeds q.feedId
          (((s.feed q.feedId).abandoned.configure q).restart (standardOfCode q.standard))
        feedPorts := tset s.feedPorts q.feedId { s.feedPort q.feedId with refs := [] }
        slots := if (s.feed q.feedId).inFlight then SlotTable.handBack s.slots (s.feed q.feedId).writing
          else s.slots } := by
  have habandoned : (s.abandon q.feedId).feed q.feedId = (s.feed q.feedId).abandoned := by
    rw [State.abandon_feed, if_pos rfl]
  unfold State.applyFeedSet
  dsimp only
  rw [if_neg h, habandoned, State.abandon_eq]
  unfold State.setFeed State.setFeedPort
  dsimp only
  rw [tset_tset]
  rfl

theorem exec_feedSet (s : State) : exec .feedSet s = .next (take .feedSet feedSet s) := rfl

theorem feedSet_of_ok (args : List Word) (s : State) (h : feedSetStatus s (feedRequestOfWords args) = .ok) :
    feedSet args s =
      (s.applyFeedSet (feedRequestOfWords args),
        Reply.ok (feedSetWords
          ((s.applyFeedSet (feedRequestOfWords args)).feed (feedRequestOfWords args).feedId))) := by
  unfold feedSet tryFeedSet
  dsimp only
  rw [if_pos h]

theorem feedSet_of_refused (args : List Word) (s : State) (h : feedSetStatus s (feedRequestOfWords args) ≠ .ok) :
    feedSet args s = (s, Reply.refusal (feedSetStatus s (feedRequestOfWords args))) := by
  unfold feedSet tryFeedSet
  dsimp only
  rw [if_neg h]
  dsimp only
  split
  · next hok => exact absurd hok h
  · rfl

/-- Settles O19: the checks by `feedSetStatus_eq_firstFailure`; the record by `Feed.configure_pinNominal_eq` on the
standard the feed has and by `Feed.restart_eq` on another. -/
theorem feedSetConfiguresTheFeed : Obligations.FeedSetConfiguresTheFeed := by
  rintro s c q f hdue hkind rfl rfl
  generalize hq : feedRequestOfWords c.args = q
  have hchecks := feedSetStatus_eq_firstFailure s q
  have hok : q.feed < 8 → q.standard ≤ 10 → q.profile ≤ 1 → q.trackSlot ≤ 4 →
      standardOfCode q.standard = (s.feed q.feedId).standard ∨ (s.feed q.feedId).routeCount = 0 →
      feedSet c.args s = (s.applyFeedSet q, Reply.ok (feedSetWords ((s.applyFeedSet q).feed q.feedId))) := by
    intro h1 h2 h3 h4 h5
    have hstatus : feedSetStatus s q = .ok := by
      rw [hchecks]
      simp [firstFailure_cons, firstFailure_nil, h1, h2, h3, h4, h5]
    subst hq
    exact feedSet_of_ok c.args s hstatus
  refine ⟨fun status hstatus hne => ?_, fun h1 h2 h3 h4 h5 => ?_, fun h1 h2 h3 h4 h5 h6 => ?_⟩
  · have hrefused : feedSetStatus s q ≠ .ok := by
      rw [hchecks, ← hstatus]
      exact hne
    rw [hstatus, ← hchecks]
    subst hq
    exact take_spec_unchanged .feedSet feedSet s c _ (exec_feedSet s) hdue hkind (feedSet_of_refused c.args s hrefused)
  · obtain ⟨t, hexec, ht, htaken⟩ := take_spec_changed .feedSet feedSet s _ c _ (exec_feedSet s) hdue hkind
      (hok h1 h2 h3 h4 (.inl h5)) (by rw [s.applyFeedSet_same q h5]; rfl)
    have hfeed : t.feed q.feedId = (s.applyFeedSet q).feed q.feedId := by rw [ht]; rfl
    refine ⟨t, hexec, ?_, ?_⟩
    · rw [ht, s.applyFeedSet_same q h5, Feed.configure_pinNominal_eq _ q h3]
      rfl
    · rw [hfeed]
      rw [show (s.applyFeedSet q).device = s.device by rw [s.applyFeedSet_same q h5]; rfl] at htaken
      exact htaken
  · have hset := s.applyFeedSet_restart q h5
    rw [Feed.restart_eq _ q h3 h2] at hset
    obtain ⟨t, hexec, ht, htaken⟩ := take_spec_changed .feedSet feedSet s _ c _ (exec_feedSet s) hdue hkind
      (hok h1 h2 h3 h4 (.inr h6)) (by rw [hset])
    have hfeed : ∀ g, t.feed g = (s.applyFeedSet q).feed g := fun g => by rw [ht]; rfl
    have hslot : ∀ k, t.slot k = (s.applyFeedSet q).slot k := fun k => by rw [ht]; rfl
    refine ⟨t, hexec, ?_, fun g hg => ?_, ?_, fun k => ?_, ?_⟩
    · rw [ht, hset]
    · rw [hfeed, hset]
      exact tget_tset_ne _ _ _ _ (Ne.symm hg)
    · rw [hfeed, hset]
      exact tget_tset_self _ _ _
    · rw [hslot, hset]
      show tget (if (s.feed q.feedId).inFlight = true then _ else s.slots) k = _
      by_cases hflight : (s.feed q.feedId).inFlight = true
      · rw [if_pos hflight, SlotTable.handBack_slot]
        simp only [hflight, true_and]
        rfl
      · rw [if_neg hflight, if_neg fun h => hflight h.1]
        rfl
    · rw [hfeed]
      rw [show (s.applyFeedSet q).device = s.device by rw [hset]] at htaken
      exact htaken

/-! ## FEED_READ (R34, R36) and TRACK_SET (R33) -/

theorem exec_feedRead (s : State) : exec .feedRead s = .next (take .feedRead feedRead s) := rfl

theorem Feed.rate_eq (f : Feed) :
    f.rate = if f.standard = none then 0 else (6912000000000 + f.period / 2) / f.period := by
  unfold Feed.rate
  cases f.standard <;> rfl

theorem feedRead_of_feed (args : List Word) (s : State) (f : FeedId) (h : f.val = bits (arg args 1) 0 8) :
    feedRead args s =
      (s.setFeed f (if bit (arg args 1) 8 then (s.feed f).clearCounters else s.feed f),
        Reply.ok (feedReadWords (s.feed f) (s.trackConstant (s.feed f)))) := by
  have hrange : ¬8 ≤ f.val := by omega
  have hfeed : Fin.ofNat 8 f.val = f := Fin.ofNat_val_eq_self f
  unfold feedRead
  dsimp only
  rw [← h, if_neg hrange, hfeed]
  by_cases hclear : bit (arg args 1) 8 = true
  · rw [if_pos hclear, if_pos hclear]
  · rw [if_neg hclear, if_neg hclear, State.setFeed_self]

/-- Settles O20: the number in word 1 is outside 0 to 7 or that of the feed `f`. -/
theorem feedReadCarriesTheRecord : Obligations.FeedReadCarriesTheRecord := by
  rintro s c _ hdue hkind rfl
  refine ⟨fun hrange => ?_, fun f hf => ?_⟩
  · have heffect : feedRead c.args s = (s, Reply.refusal .range) := if_pos hrange
    exact take_spec_unchanged .feedRead feedRead s c _ (exec_feedRead s) hdue hkind heffect
  · obtain ⟨t, hexec, ht, htaken⟩ := take_spec_changed .feedRead feedRead s _ c _ (exec_feedRead s) hdue hkind
      (feedRead_of_feed c.args s f hf) rfl
    have hfeed : ∀ g, t.feed g = if f = g then
        (if bit (arg c.args 1) 8 then (s.feed f).clearCounters else s.feed f) else s.feed g := fun g => by
      rw [ht]
      exact State.setFeed_feed s f g _
    refine ⟨t, hexec, ?_, fun g hg => ?_, ?_, ?_⟩
    · rw [ht]
      rfl
    · rw [hfeed, if_neg (Ne.symm hg)]
    · rw [hfeed, if_pos rfl]
      rfl
    · unfold feedReadWords at htaken
      rw [Feed.rate_eq] at htaken
      exact htaken

theorem exec_trackSet (s : State) : exec .trackSet s = .next (take .trackSet trackSet s) := rfl

theorem trackSet_of_refused (args : List Word) (s : State) (h : 5 ≤ bits (arg args 1) 0 8 ∨ bits (arg args 1) 0 8 < 2) :
    trackSet args s = (s, Reply.refusal (if bits (arg args 1) 0 8 < 2 then .fixed else .range)) := by
  unfold trackSet
  dsimp only
  by_cases hlow : bits (arg args 1) 0 8 < 2
  · rw [if_neg (by omega), if_pos hlow, if_pos hlow]
    rfl
  · rw [if_pos (by omega), if_neg hlow]
    rfl

theorem trackValue_eq (n : Nat) : trackValue n = if n = 0 then 1 else n := by
  unfold trackValue
  split <;> omega

theorem trackSet_of_slot (args : List Word) (s : State) (k : Fin 5) (h : k.val = bits (arg args 1) 0 8)
    (hlow : 2 ≤ bits (arg args 1) 0 8) :
    trackSet args s =
      ({ s with trackK := tset s.trackK k (trackValue (bits (arg args 1) 16 16)) },
        Reply.ok [pack [⟨bits (arg args 1) 0 8, 0, 8⟩, ⟨trackValue (bits (arg args 1) 16 16), 16, 16⟩]]) := by
  have hslot : Fin.ofNat 5 k.val = k := Fin.ofNat_val_eq_self k
  unfold trackSet
  dsimp only
  rw [if_neg (by omega), if_neg (by omega), ← h, hslot]

/-- Settles O21: the slot named is fixed, out of range or one of 2 to 4. -/
theorem trackSetSetsTheConstant : Obligations.TrackSetSetsTheConstant := by
  rintro s c _ _ hdue hkind rfl rfl
  refine ⟨fun hrefused => ?_, fun k hk hlow => ?_⟩
  · exact take_spec_unchanged .trackSet trackSet s c _ (exec_trackSet s) hdue hkind
      (trackSet_of_refused c.args s hrefused)
  · rw [← trackValue_eq]
    exact take_spec_changed .trackSet trackSet s _ c _ (exec_trackSet s) hdue hkind
      (trackSet_of_slot c.args s k hk hlow) rfl

end Sys2Proof.Machine

/-! ROUTE_ALTER, ROUTE_CLOSE, ROUTE_READ, ROUTE_HOLD, ROUTE_RELEASE and CHECK_SET (R68 to R75, R142). -/

namespace Sys2Proof.Machine

/-! ## ROUTE_ALTER (R72, R73) -/

theorem exec_routeAlter (s : State) : exec .routeAlter s = .next (take .routeAlter routeAlter s) := rfl

/-- The checks of an alteration with their statuses, in R72's order. -/
def alterChecks (s : State) (p : AlterFlags) (q : OpenRequest) : List (Bool × Status) :=
  [(!p.feed && !p.port, .fixed),
   (decide (p.profile = true → q.profile < 32), .range),
   (decide (p.profile = true → s.profile q.profileId ≠ .empty), .profileEmpty),
   (decide (p.mapList = true → q.mapCount ≤ 8 ∧ q.mapCount ≤ q.entries.length), .range),
   (decide (p.mapList = true → ((q.entries.take q.mapCount).map (fun e => (e.family, e.kind))).Nodup), .mapDuplicate),
   (decide ((p.cadence = true → q.cadence ≤ 1) ∧ (p.timecode = true → q.timecode ≤ 2) ∧
      (p.unmapped = true → q.unmapped ≤ 2) ∧
      (p.mapList = true → ∀ e ∈ q.entries.take q.mapCount, 1 ≤ e.family ∧ e.family ≤ 255 ∧ e.action ≤ 2)),
    .range)]

theorem alterValid_iff (p : AlterFlags) (q : OpenRequest) :
    alterValid p q = true ↔ (p.cadence = true → q.cadence ≤ 1) ∧ (p.timecode = true → q.timecode ≤ 2) ∧
      (p.unmapped = true → q.unmapped ≤ 2) ∧
      (p.mapList = true → ∀ e ∈ q.mapEntries, 1 ≤ e.family ∧ e.family ≤ 255 ∧ e.action ≤ 2) := by
  have himp : ∀ b c : Bool, (!b || c) = true ↔ (b = true → c = true) := by decide
  unfold alterValid
  rw [cadenceOfCode_isSome, timecodeModeOfCode_isSome, unmappedOfCode_isSome, q.mapValid_eq]
  simp only [Bool.and_eq_true, himp, decide_eq_true_eq, and_assoc]

theorem alterStatus_eq_firstFailure (s : State) (p : AlterFlags) (q : OpenRequest) :
    alterStatus s p q = firstFailure (alterChecks s p q) := by
  have hentries : q.entries.take q.mapCount = q.mapEntries := rfl
  have hfixed : ((p.feed || p.port) = true) = ¬((!p.feed && !p.port) = true) := by
    cases p.feed <;> cases p.port <;> simp
  have hrange : ((p.profile && decide (32 ≤ q.profile)) = true) = ¬(p.profile = true → q.profile < 32) := by
    simp
  have hempty : ((p.profile && s.profile q.profileId == .empty) = true) =
      ¬(p.profile = true → s.profile q.profileId ≠ .empty) := by
    simp
  have hfits : ((p.mapList && !q.mapFits) = true) =
      ¬(p.mapList = true → q.mapCount ≤ 8 ∧ q.mapCount ≤ q.entries.length) := by
    have hiff : q.mapFits = true ↔ q.mapCount ≤ 8 ∧ q.mapCount ≤ q.entries.length := by
      rw [q.mapFits_eq, decide_eq_true_iff]
    rw [← hiff]
    cases p.mapList <;> cases q.mapFits <;> simp
  have hrepeats : ((p.mapList && q.mapRepeats) = true) =
      ¬(p.mapList = true → (q.mapEntries.map (fun e => (e.family, e.kind))).Nodup) := by
    simp [OpenRequest.mapRepeats]
  have hvalid : ((!alterValid p q) = true) = ¬(alterValid p q = true) := by simp
  unfold alterStatus alterChecks
  rw [hentries]
  simp only [firstFailure_cons, firstFailure_nil, hfixed, hrange, hempty, hfits, hrepeats, hvalid, alterValid_iff,
    ite_not,
    decide_eq_true_eq]

theorem routeAlter_of_refused (args : List Word) (s : State) (hvalid : s.handleValid (bits (arg args 1) 0 8) = true)
    (h : alterStatus s (alterFlags (arg args 1)) (requestOfWords (args.drop 1)) ≠ .ok) :
    routeAlter args s =
      (s, Reply.refusal (alterStatus s (alterFlags (arg args 1)) (requestOfWords (args.drop 1)))) := by
  unfold routeAlter
  rw [withHandle_of_valid args s _ hvalid]
  dsimp only
  split
  · next hok => exact absurd hok h
  · rfl

theorem routeAlter_of_ok (args : List Word) (s : State) (i : RouteId)
    (hvalid : s.handleValid (bits (arg args 1) 0 8) = true) (hi : i = handleIndex (bits (arg args 1) 0 8))
    (h : alterStatus s (alterFlags (arg args 1)) (requestOfWords (args.drop 1)) = .ok) (r : Route)
    (hr : r = (s.route i).alter (alterFlags (arg args 1)) (requestOfWords (args.drop 1))) :
    routeAlter args s = (s.setRoute i r, Reply.ok (settingWords r ++ mapWords r.setting.mapList)) := by
  unfold routeAlter
  rw [withHandle_of_valid args s _ hvalid, hr, hi]
  dsimp only
  rw [h]

/-- Settles O13: `alterStatus_eq_firstFailure` gives the checks; an accepted alteration is `Route.alter`, whose fields
are those of the request where they are present. -/
theorem routeAlterAppliesPresentFields : Obligations.RouteAlterAppliesPresentFields := by
  rintro s c i p q status hdue hkind hvalid hi rfl rfl hstatus
  generalize hp : alterFlags (arg c.args 1) = p at hstatus
  generalize hq : requestOfWords (c.args.drop 1) = q at hstatus
  have hchecks : status = alterStatus s p q := hstatus.trans (alterStatus_eq_firstFailure s p q).symm
  refine ⟨fun hne => ?_, fun hok => ?_⟩
  · have hrefused := routeAlter_of_refused c.args s hvalid (by rw [hp, hq, ← hchecks]; exact hne)
    rw [hp, hq, ← hchecks] at hrefused
    exact take_spec_unchanged .routeAlter routeAlter s c _ (exec_routeAlter s) hdue hkind hrefused
  · have hmodes : alterValid p q = true := by
      have hall := firstFailure_ok (alterChecks s p q) (hstatus.symm.trans hok) (by simp [alterChecks])
      rw [alterValid_iff]
      exact of_decide_eq_true (hall _ (List.getLast_mem (l := alterChecks s p q) (by simp [alterChecks])))
    obtain ⟨hcadence, htimecode, hunmapped, -⟩ := (alterValid_iff p q).1 hmodes
    have haltered := routeAlter_of_ok c.args s i hvalid hi (by rw [hp, hq, ← hchecks, hok]) _ rfl
    rw [hp, hq] at haltered
    obtain ⟨t, hexec, ht, htaken⟩ := take_spec_changed .routeAlter routeAlter s _ c _ (exec_routeAlter s) hdue hkind
      haltered rfl
    have hroute : ∀ j, t.route j = if i = j then (s.route i).alter p q else s.route j := fun j => by
      rw [ht]
      exact State.setRoute_route s i j _
    have hself : t.route i = (s.route i).alter p q := (hroute i).trans (if_pos rfl)
    refine ⟨t, hexec, ?_, fun j hj => ?_, ?_, ?_⟩
    · rw [ht]
      rfl
    · rw [hroute, if_neg (Ne.symm hj)]
    · rw [hself]
      rfl
    · rw [hself]
      refine ⟨rfl, rfl, ?_, ?_, rfl, rfl, rfl, ?_, ?_, htaken⟩
      · show (if p.cadence = true then (cadenceOfCode q.cadence).getD .off else _) = _
        split
        · next h => rw [cadenceOfCode_getD _ (hcadence h)]
        · rfl
      · show (if p.timecode = true then (timecodeModeOfCode q.timecode).getD .off else _) = _
        split
        · next h => rw [timecodeModeOfCode_getD _ (htimecode h)]
        · rfl
      · show (if p.unmapped = true then (unmappedOfCode q.unmapped).getD .drop else _) = _
        split
        · next h => rw [unmappedOfCode_getD _ (hunmapped h)]
        · rfl
      · show alterCadence (s.route i).setting.cadence (alterSetting (s.route i).setting p q).cadence
          (s.route i).cadence = _
        show _ = if (alterSetting (s.route i).setting p q).cadence = (s.route i).setting.cadence
          then (s.route i).cadence
          else if (alterSetting (s.route i).setting p q).cadence = .auto then _ else _
        generalize (alterSetting (s.route i).setting p q).cadence = new
        unfold alterCadence
        by_cases hsame : (s.route i).setting.cadence = new
        · rw [if_pos hsame, if_pos hsame.symm]
        · rw [if_neg hsame, if_neg (Ne.symm hsame)]
          cases new <;> rfl

/-! ## ROUTE_CLOSE (R70) -/

theorem exec_routeClose (s : State) : exec .routeClose s = .next (take .routeClose routeClose s) := rfl

theorem stateWord_closeState (r : Route) :
    stateWord r.closeState = pack [⟨if r.pair.isSome then 6 else 0, 0, 3⟩] := by
  unfold Route.closeState
  split <;> rfl

/-- Settles O14: the effect of ROUTE_CLOSE, with the window's slots let go (`dropWindow_slot`). -/
theorem routeCloseGivesBackFeedAndPort : Obligations.RouteCloseGivesBackFeedAndPort := by
  intro s c i hdue hkind hvalid hi
  obtain ⟨t, hexec, ht, htaken⟩ := take_spec_changed .routeClose routeClose s _ c _ (exec_routeClose s) hdue hkind
    (withHandle_of_valid c.args s _ hvalid) rfl
  rw [← hi] at ht htaken
  have hroute : ∀ j, t.route j = if i = j then (s.route i).endLife (s.route i).closeState else s.route j := fun j => by
    rw [ht]
    exact State.setRoute_route s i j _
  have hfeed : ∀ f, t.feed f =
      if (s.route i).feed = f then (s.feed (s.route i).feed).dropRoute else s.feed f := fun f => by
    rw [ht]
    exact tget_tset _ _ _ _
  refine ⟨t, hexec, ?_, fun j hj => ?_, ?_, fun f hf => ?_, ?_, fun k => ?_, ?_⟩
  · rw [ht]
    rfl
  · rw [hroute, if_neg (Ne.symm hj)]
  · rw [hroute, if_pos rfl]
    rfl
  · rw [hfeed, if_neg (Ne.symm hf)]
  · rw [hfeed, if_pos rfl]
    rfl
  · have hslot : t.slot k = tget (dropWindow (s.route i) s.slots) k := by rw [ht]; rfl
    rw [hslot, dropWindow_slot]
    rfl
  · rw [← stateWord_closeState]
    exact htaken

/-! ## ROUTE_READ (R75) -/

theorem exec_routeRead (s : State) : exec .routeRead s = .next (take .routeRead routeRead s) := rfl

theorem State.setRoute_self (s : State) (i : RouteId) : s.setRoute i (s.route i) = s := by
  have hself : tset s.routes i (s.route i) = s.routes := tset_tget _ _
  show { s with routes := tset s.routes i (s.route i) } = s
  rw [hself]

theorem windowWords_eq (o : Option WindowEntry) :
    windowWords o =
      [((windowWords o)[0]?).getD 0, ((windowWords o)[1]?).getD 0, ((windowWords o)[2]?).getD 0] := by
  cases o <;> rfl

theorem mapWords_length (l : List MapEntry) : (mapWords l).length = 2 * l.length := by
  induction l with
  | nil => rfl
  | cons e l ih =>
    rw [mapWords, List.flatMap_cons, List.length_append]
    rw [mapWords] at ih
    rw [ih, List.length_cons]
    show 2 + 2 * l.length = _
    omega

/-- The words of a record before its map list, each window entry's in its three words. -/
theorem routeReadWords_eq (i : RouteId) (r : Route) :
    routeReadWords i r =
      (pack [⟨i.val + 16 * r.generation.val, 0, 8⟩, ⟨i.val, 8, 4⟩, ⟨r.state.code, 12, 3⟩, ⟨r.outStandard.code, 16, 4⟩,
          ⟨r.events.toNat, 24, 8⟩] :: settingWords r)
        ++ windowWords r.window[0]? ++ windowWords r.window[1]? ++ windowWords r.window[2]? ++ windowWords r.window[3]?
        ++ pairWords r ++ [r.nextAdmit, BitVec.ofInt 32 r.phase, BitVec.ofInt 32 r.error] ++ snapshotWords r
        ++ [pack [⟨r.lapse, 0, 16⟩, ⟨r.counters.continuityErrors, 16, 16⟩],
            r.counters.outputs,
            pack [⟨r.counters.late, 0, 16⟩, ⟨r.counters.early, 16, 16⟩],
            pack [⟨r.counters.clips, 0, 16⟩, ⟨r.counters.cadenceBreaks, 16, 16⟩],
            partsWord r]
        ++ mapWords r.setting.mapList := by
  have hrange : List.range 4 = [0, 1, 2, 3] := rfl
  unfold routeReadWords
  rw [hrange]
  simp only [List.flatMap_cons, List.flatMap_nil, List.append_nil, List.append_assoc, List.cons_append, List.nil_append]
  rfl

theorem routeReadWords_window (i : RouteId) (r : Route) (n : Nat) (hn : n < 4) :
    ((routeReadWords i r).drop (4 + 3 * n)).take 3 = windowWords r.window[n]? := by
  rw [routeReadWords_eq, windowWords_eq r.window[0]?, windowWords_eq r.window[1]?, windowWords_eq r.window[2]?,
    windowWords_eq r.window[3]?, windowWords_eq r.window[n]?]
  interval_cases n <;> rfl

/-- Settles O15: the words are those of `routeReadWords_eq`. -/
theorem routeReadCarriesTheRecord : Obligations.RouteReadCarriesTheRecord := by
  intro s c i hdue hkind hvalid hi
  obtain ⟨t, hexec, ht, htaken⟩ := take_spec_changed .routeRead routeRead s
    (s.setRoute i { s.route i with
      counters := if bit (arg c.args 1) 8 then RouteCounters.zero else (s.route i).counters }) c
    (Reply.ok (routeReadWords i (s.route i))) (exec_routeRead s) hdue hkind
    (by
      unfold routeRead
      rw [withHandle_of_valid c.args s _ hvalid, hi]
      by_cases hclear : bit (arg c.args 1) 8 = true
      · rw [if_pos hclear, if_pos hclear]
      · rw [if_neg hclear, if_neg hclear]
        show _ = (s.setRoute _ (s.route _), _)
        rw [State.setRoute_self]) rfl
  have hroute := fun j => (congrArg (fun u : State => u.route j) ht).trans (State.setRoute_route s i j _)
  have hwindow := routeReadWords_window i (s.route i)
  have hlength : (routeReadWords i (s.route i)).length = 31 + 2 * (s.route i).setting.mapList.length := by
    have hthree : ∀ o, (windowWords o).length = 3 := fun o => by cases o <;> rfl
    rw [routeReadWords_eq]
    simp only [List.length_append, hthree, mapWords_length]
    show 4 + 3 + 3 + 3 + 3 + 2 + 3 + 5 + 5 + _ = _
    omega
  have hwords := routeReadWords_eq i (s.route i)
  rw [windowWords_eq (s.route i).window[0]?, windowWords_eq (s.route i).window[1]?,
    windowWords_eq (s.route i).window[2]?, windowWords_eq (s.route i).window[3]?] at hwords
  refine ⟨t, _, hexec, ?_, fun j hj => ?_, ?_, htaken, rfl, hlength, ?_, fun n e hn he => ?_, fun n hn he => ?_, ?_, ?_,
    ?_, ?_, ?_, ?_⟩
  · rw [ht]
    rfl
  · exact (hroute j).trans (if_neg (Ne.symm hj))
  · exact (hroute i).trans (if_pos rfl)
  · exact congrArg (List.take 4) hwords
  · refine (hwindow n hn).trans ?_
    rw [he]
    rfl
  · refine (hwindow n hn).trans ?_
    rw [he]
    rfl
  · exact congrArg (fun l => (l.drop 16).take 2) hwords
  · exact congrArg (fun l => (l.drop 18).take 3) hwords
  · exact congrArg (fun l => (l.drop 21).take 5) hwords
  · exact congrArg (fun l => (l.drop 26).take 4) hwords
  · exact congrArg (fun l => l[30]?) hwords
  · exact congrArg (List.drop 31) hwords

/-! ## ROUTE_HOLD and ROUTE_RELEASE (R68, R69) -/

theorem exec_routeHold (s : State) : exec .routeHold s = .next (take .routeHold routeHold s) := rfl
theorem exec_routeRelease (s : State) : exec .routeRelease s = .next (take .routeRelease routeRelease s) := rfl

theorem State.live_of_handleValid (s : State) (h : Nat) (hvalid : s.handleValid h = true) :
    (s.route (handleIndex h)).state.live = true :=
  (Bool.and_eq_true _ _ ▸ hvalid).1

theorem Route.hold_eq (r : Route) (h : r.state.live = true) :
    r.hold =
      if r.state = .running then
        { r with
          state := .held, frozen := r.pair.isSome
          checker := r.checker.map (fun _ => { state := .hunt, run := 0, results := [], previous := none }) }
      else { r with state := .held } := by
  unfold Route.hold
  cases hs : r.state <;> rw [hs] at h
  case free | closing => exact absurd h Bool.false_ne_true
  case running => rfl
  case held =>
    rw [if_neg (by decide)]
    show r = { r with state := .held }
    rw [← hs]
  all_goals rfl

theorem Route.release_eq (r : Route) (f : FeedState) (slots : SlotTable) :
    (r.release f slots).1 =
      if r.state ≠ .held then r
      else if f = .lost ∨ f = .mismatch then r.starve
      else if 2 ≤ r.window.length then { r with state := .running }
      else { r with state := .priming } := by
  have hgone : f.gone = true ↔ f = .lost ∨ f = .mismatch := by cases f <;> simp [FeedState.gone]
  unfold Route.release
  simp only [hgone]
  split
  · rfl
  · split
    · rfl
    · split <;> rfl

/-- A release lets go of a window only when it takes the record to STARVED (R69). -/
theorem Route.release_slots (r : Route) (f : FeedState) (slots : SlotTable) :
    (r.release f slots).2 =
      if (r.release f slots).1.state = .starved ∧ r.state = .held then dropWindow r slots else slots := by
  unfold Route.release
  split
  · next h => rw [if_neg fun hs => h hs.2]
  · next h =>
    split
    · exact (if_pos ⟨rfl, not_not.1 h⟩).symm
    · split <;> exact (if_neg fun hs => absurd hs.1 (by simp)).symm

/-- Settles O16: `Route.hold_eq` for the hold, `Route.release_eq` and `Route.release_slots` for the release. -/
theorem holdAndReleaseMoveTheRoute : Obligations.HoldAndReleaseMoveTheRoute := by
  refine ⟨fun s c i hdue hkind hvalid hi => ?_, fun s c i r hdue hkind hvalid hi hr => ?_⟩
  · obtain ⟨t, hexec, ht, htaken⟩ := take_spec_changed .routeHold routeHold s _ c _ (exec_routeHold s) hdue hkind
      (withHandle_of_valid c.args s _ hvalid) rfl
    rw [← hi] at ht htaken
    have hlive : (s.route i).state.live = true := by
      rw [hi]
      exact s.live_of_handleValid _ hvalid
    have hheld : (s.route i).hold.state = .held := by
      rw [Route.hold_eq _ hlive]
      split <;> rfl
    have hroute := fun j => (congrArg (fun u : State => u.route j) ht).trans (State.setRoute_route s i j _)
    refine ⟨t, hexec, ?_, fun j hj => ?_, ?_, ?_⟩
    · rw [ht]
      rfl
    · exact (hroute j).trans (if_neg (Ne.symm hj))
    · exact ((hroute i).trans (if_pos rfl)).trans (Route.hold_eq _ hlive)
    · rw [hheld] at htaken
      exact htaken
  · obtain ⟨t, hexec, ht, htaken⟩ := take_spec_changed .routeRelease routeRelease s _ c _ (exec_routeRelease s) hdue
      hkind (withHandle_of_valid c.args s _ hvalid) rfl
    rw [← hi] at ht htaken
    have hrecord : ((s.route i).release (s.feed (s.route i).feed).state s.slots).1 = r :=
      (Route.release_eq _ _ _).trans hr.symm
    have hroute := fun j => (congrArg (fun u : State => u.route j) ht).trans (State.setRoute_route s i j _)
    refine ⟨t, hexec, ?_, fun j hj => ?_, ?_, fun k => ?_, ?_⟩
    · rw [ht]
      rfl
    · exact (hroute j).trans (if_neg (Ne.symm hj))
    · exact ((hroute i).trans (if_pos rfl)).trans hrecord
    · have hslot : t.slot k = tget ((s.route i).release (s.feed (s.route i).feed).state s.slots).2 k := by
        rw [ht]
        rfl
      rw [hslot, Route.release_slots, hrecord]
      by_cases hstarved : r.state = .starved ∧ (s.route i).state = .held
      · rw [if_pos hstarved, dropWindow_slot]
        simp only [hstarved.1, hstarved.2, true_and]
        rfl
      · rw [if_neg hstarved, if_neg fun h => hstarved ⟨h.1, h.2.1⟩]
        rfl
    · rw [hrecord] at htaken
      exact htaken

/-! ## CHECK_SET (R142) -/

theorem exec_checkSet (s : State) : exec .checkSet s = .next (take .checkSet checkSet s) := rfl

theorem checkSet_of_value (args : List Word) (s : State) (i : RouteId)
    (hvalid : s.handleValid (bits (arg args 1) 0 8) = true) (hi : i = handleIndex (bits (arg args 1) 0 8))
    (hvalue : bits (arg args 1) 8 8 ≤ 1) :
    checkSet args s =
      (s.setRoute i ((s.route i).setChecker (bits (arg args 1) 8 8 == 1)),
        Reply.ok [checkerWord ((s.route i).setChecker (bits (arg args 1) 8 8 == 1)).checker]) := by
  unfold checkSet
  rw [withHandle_of_valid args s _ hvalid, hi]
  dsimp only
  rw [if_neg (by omega)]

/-- Settles O18: the handle, then the value, then `Route.setChecker`. -/
theorem checkSetSwitchesTheChecker : Obligations.CheckSetSwitchesTheChecker := by
  rintro s c h value i hdue hkind rfl hi rfl
  refine ⟨fun hstale => ?_, fun hvalid hvalue => ?_, fun hvalid hvalue => ?_, fun part hvalid hvalue hpart => ?_⟩
  · exact take_spec_unchanged .checkSet checkSet s c _ (exec_checkSet s) hdue hkind
      (withHandle_of_stale c.args s _ hstale)
  · refine take_spec_unchanged .checkSet checkSet s c _ (exec_checkSet s) hdue hkind ?_
    unfold checkSet
    rw [withHandle_of_valid c.args s _ hvalid]
    exact if_pos (by omega)
  · have heffect := checkSet_of_value c.args s i hvalid hi (by omega)
    rw [hvalue] at heffect
    exact take_spec_changed .checkSet checkSet s _ c _ (exec_checkSet s) hdue hkind heffect rfl
  · have heffect := checkSet_of_value c.args s i hvalid hi (by omega)
    have hpartOf : (s.route i).checker.getD CheckerPart.fresh = part := by
      rcases hpart with h | ⟨h, rfl⟩ <;> rw [h] <;> rfl
    have hset : (s.route i).setChecker true = { s.route i with checker := some part } := by
      rw [← hpartOf]
      rfl
    rw [hvalue, show ((1 : Nat) == 1) = true from rfl, hset] at heffect
    exact take_spec_changed .checkSet checkSet s _ c _ (exec_checkSet s) hdue hkind heffect rfl

end Sys2Proof.Machine

/-! PROFILE_WRITE, TIMELINE_SET, PORT_SET, PORT_MUTE and REFERENCE_SET (R9, R12, R15, R117, R123). -/

namespace Sys2Proof.Machine

/-! ## PROFILE_WRITE (R117) -/

theorem exec_profileWrite (s : State) : exec .profileWrite s = .next (take .profileWrite profileWrite s) := rfl

theorem curveValid_getElem_iff (points : List Nat) :
    curveValid points = true ↔
      points.length = 17 ∧ points[0]? = some 0 ∧ points[16]? = some 64 ∧ points.Pairwise (· ≤ ·) := by
  rw [curveValid_iff]
  refine and_congr_right fun hlength => ?_
  have hget : ∀ n v : Nat, n < 17 → (curvePoint points n = v ↔ points[n]? = some v) := fun n v hn => by
    have hn' : n < points.length := by omega
    simp [curvePoint, List.getD_eq_getElem?_getD, List.getElem?_eq_getElem hn']
  rw [hget 0 0 (by omega), hget 16 64 (by omega)]

/-- The checks of a profile write with their statuses, in R117's order; the points are there when the words hold
them. -/
theorem profileWriteStatus_eq_firstFailure (n kind : Nat) (held : Prop) [Decidable held] (points : List Nat) :
    profileWriteStatus { profile := n, kind := kind, points := if held then some points else none } =
      firstFailure
        [(decide (n < 32), .range), (decide (4 ≤ n), .fixed), (decide (kind = 0 ∨ kind = 1), .range),
         (decide (kind = 0 → held), .range), (decide (kind = 0 → curveValid points = true), .curveInvalid)] := by
  unfold profileWriteStatus
  simp only [firstFailure_cons, firstFailure_nil, decide_eq_true_eq, ← Nat.not_lt, ite_not]
  by_cases hn : n < 32
  · by_cases hlow : n < 4
    · simp [hn, hlow]
    · by_cases hone : kind = 1
      · simp [hn, hlow, hone]
      · by_cases hzero : kind = 0
        · by_cases hheld : held <;> simp [hn, hlow, hzero, hheld]
        · simp [hn, hlow, hone, hzero]
  · simp [hn]

theorem profileWrite_eq (args : List Word) (s : State) (status : Status)
    (h : profileWriteStatus (profileRequestOfWords args) = status) :
    profileWrite args s =
      ({ s with
          profiles := if status = .ok then
              tset s.profiles (Fin.ofNat 32 (bits (arg args 1) 0 8)) (profileRequestOfWords args).contents
            else s.profiles },
        { status := status, payload := [] }) := by
  unfold profileWrite tryProfileWrite
  rw [h]
  by_cases hok : status = .ok
  · rw [if_pos hok, if_pos hok, hok]
    rfl
  · rw [if_neg hok, if_neg hok]

theorem profileRequestOfWords_contents (args : List Word)
    (h : profileWriteStatus (profileRequestOfWords args) = .ok) :
    (profileRequestOfWords args).contents =
      if bits (arg args 1) 8 8 = 1 then .snap else .curve (argPoints args) := by
  have hcontents : (profileRequestOfWords args).contents = if bits (arg args 1) 8 8 = 1 then .snap else
      .curve ((if args.length = 6 then some (argPoints args) else none).getD []) := rfl
  rw [hcontents]
  by_cases hlength : args.length = 6
  · rw [if_pos hlength]
    rfl
  · by_cases hsnap : bits (arg args 1) 8 8 = 1
    · rw [if_pos hsnap, if_pos hsnap]
    · have hchecks := profileWriteStatus_eq_firstFailure (bits (arg args 1) 0 8) (bits (arg args 1) 8 8)
        (args.length = 6) (argPoints args)
      have hall := firstFailure_ok _ (hchecks.symm.trans h) (by simp)
      simp only [List.forall_mem_cons, decide_eq_true_eq] at hall
      obtain ⟨-, -, hkind, hwords, -⟩ := hall
      exact absurd (hwords (hkind.resolve_right hsnap)) hlength

/-- Settles O22: the checks by `profileWriteStatus_eq_firstFailure`, the contents by
`profileRequestOfWords_contents`. -/
theorem profileWriteReplacesTheProfile : Obligations.ProfileWriteReplacesTheProfile := by
  rintro s c n kind points status hdue hkind rfl rfl rfl hstatus
  have hchecked : profileWriteStatus (profileRequestOfWords c.args) = status := by
    rw [hstatus]
    simp only [← curveValid_getElem_iff]
    exact profileWriteStatus_eq_firstFailure _ _ _ _
  have heffect := profileWrite_eq c.args s status hchecked
  have hcontents := profileRequestOfWords_contents c.args
  rw [hchecked] at hcontents
  have hprofiles : (if status = .ok then
        tset s.profiles (Fin.ofNat 32 (bits (arg c.args 1) 0 8)) (profileRequestOfWords c.args).contents
      else s.profiles) = if status = .ok then tset s.profiles (Fin.ofNat 32 (bits (arg c.args 1) 0 8))
        (if bits (arg c.args 1) 8 8 = 1 then .snap else .curve (argPoints c.args)) else s.profiles := by
    split
    · next hok => rw [hcontents hok]
    · rfl
  rw [hprofiles] at heffect
  exact take_spec_changed .profileWrite profileWrite s _ c _ (exec_profileWrite s) hdue hkind heffect rfl

/-! ## TIMELINE_SET (R12) -/

theorem exec_timelineSet (s : State) (tick : Tick) :
    exec (.timelineSet tick) s = .next (take .timelineSet (timelineSet tick) s) := rfl

theorem timelineSetStatus_eq_firstFailure (s : State) (t : TimelineId) (st : Standard) (time : Option Word) :
    timelineSetStatus s (some t) (some st) time =
      firstFailure
        [(!time.isSome || st.validTimecode (timelineSetTimecode st time), .range),
         (decide (∀ i, (s.route i).state.live = true → (s.port (s.route i).port).timeline ≠ t), .timelineInUse)] := by
  have hlive : s.liveOnTimeline t = 0 ↔
      ∀ i, (s.route i).state.live = true → (s.port (s.route i).port).timeline ≠ t := by
    simp [State.liveOnTimeline, State.portTimeline, List.countP_eq_zero]
  unfold timelineSetStatus
  simp only [firstFailure_cons, firstFailure_nil, ← hlive, decide_eq_true_eq, ne_eq, ite_not]
  cases time with
  | none => simp
  | some w =>
    show (if (!st.validTimecode (startTimecode st w)) = true then _ else _) = _
    cases hvalid : st.validTimecode (startTimecode st w) <;> simp [timelineSetTimecode, hvalid]

/-- The time that a TIMELINE_SET carries in its third word, where it has one. -/
def timelineTime (args : List Word) : Option Word := if args.length = 2 then some (arg args 2) else none

theorem timelineSet_of_refused (tick : Tick) (args : List Word) (s : State)
    (h : timelineSetStatus s (timelineOfCode (bits (arg args 1) 0 8)) (standardOfCode (bits (arg args 1) 8 8))
      (timelineTime args) ≠ .ok) :
    timelineSet tick args s =
      (s, Reply.refusal (timelineSetStatus s (timelineOfCode (bits (arg args 1) 0 8))
        (standardOfCode (bits (arg args 1) 8 8)) (timelineTime args))) := by
  unfold timelineTime at h ⊢
  unfold timelineSet
  dsimp only
  split
  · next hok _ _ => exact absurd hok h
  · rfl

theorem timelineSet_of_ok (tick : Tick) (args : List Word) (s : State) (t : TimelineId) (st : Standard)
    (ht : timelineOfCode (bits (arg args 1) 0 8) = some t) (hst : standardOfCode (bits (arg args 1) 8 8) = some st)
    (h : timelineSetStatus s (some t) (some st) (timelineTime args) = .ok) :
    timelineSet tick args s =
      ((s.cutTimeline t).setTimeline t
          ((s.timeline t).startWith st tick (timelineSetTimecode st (timelineTime args))),
        Reply.ok [startBoundary st tick]) := by
  unfold timelineTime at h ⊢
  unfold timelineSet
  dsimp only
  rw [ht, hst, h]

theorem timelineSetTimecode_eq (st : Standard) (args : List Word) :
    timelineSetTimecode st (timelineTime args) =
      if decide (args.length = 2) = true then
        ⟨bits (arg args 2) 24 6, bits (arg args 2) 16 8, bits (arg args 2) 8 8, bits (arg args 2) 0 8, st.drop, false⟩
      else ⟨0, 0, 0, 0, st.drop, false⟩ := by
  unfold timelineTime
  by_cases h : args.length = 2
  · rw [if_pos h, if_pos (decide_eq_true h)]
    rfl
  · rw [if_neg h, if_neg (by simpa using h)]
    rfl

/-- Settles O24: the checks by `timelineSetStatus_eq_firstFailure`; an accepted one cuts what is on the timeline and
starts it. -/
theorem timelineSetRestartsTheTimeline : Obligations.TimelineSetRestartsTheTimeline := by
  rintro s c tick w time status hdue hkind rfl rfl
  refine ⟨fun t' st timed start ht hst htimed hstart hstatus => ?_, fun hnone => ?_⟩
  · have hstart' : timelineSetTimecode st (timelineTime c.args) = start := by
      rw [hstart, htimed]
      exact timelineSetTimecode_eq st c.args
    have hsome : (timelineTime c.args).isSome = timed := by
      rw [htimed]
      unfold timelineTime
      split <;> simp [*]
    have hchecked : timelineSetStatus s (some t') (some st) (timelineTime c.args) = status := by
      rw [timelineSetStatus_eq_firstFailure, hsome, hstart']
      exact hstatus.symm
    refine ⟨fun hne => ?_, fun hok => ?_⟩
    · have hrefused := timelineSet_of_refused tick c.args s (by rw [ht, hst, hchecked]; exact hne)
      rw [ht, hst, hchecked] at hrefused
      exact take_spec_unchanged .timelineSet (timelineSet tick) s c _ (exec_timelineSet s tick) hdue hkind hrefused
    · have heffect := timelineSet_of_ok tick c.args s t' st ht hst (hchecked.trans hok)
      rw [hstart'] at heffect
      obtain ⟨t, hexec, hs, htaken⟩ := take_spec_changed .timelineSet (timelineSet tick) s _ c _
        (exec_timelineSet s tick) hdue hkind heffect (State.setTimeline_cu _ _ _)
      rw [State.setTimeline_device] at htaken
      have htimeline : ∀ u, t.timeline u =
          if u = t' then (s.timeline t').startWith st tick start else s.timeline u := fun u => by
        have hkept : t.timeline u =
            ((s.cutTimeline t').setTimeline t' ((s.timeline t').startWith st tick start)).timeline u := by
          rw [hs]
          cases u <;> rfl
        rw [hkept, State.setTimeline_timeline]
        cases u <;> rfl
      refine ⟨t, hexec, ?_, fun u hu => ?_, ?_, fun p => ?_, fun i => ?_, ?_, htaken⟩
      · rw [hs, State.setTimeline_only]
        rfl
      · rw [htimeline, if_neg hu]
      · rw [htimeline, if_pos rfl]
        rfl
      · rw [hs]
        show tget ((s.cutTimeline t').setTimeline t' _).ports p = _
        rw [State.setTimeline_ports]
        exact tget_map _ _ _
      · rw [hs]
        show tget ((s.cutTimeline t').setTimeline t' _).routes i = _
        rw [State.setTimeline_routes]
        exact tget_map _ _ _
      · rw [hs]
        show ((s.cutTimeline t').setTimeline t' _).monitor = _
        rw [State.setTimeline_monitor]
        rfl
  · have hrange : timelineSetStatus s (timelineOfCode (bits (arg c.args 1) 0 8))
        (standardOfCode (bits (arg c.args 1) 8 8)) (timelineTime c.args) = .range := by
      unfold timelineSetStatus
      rcases hnone with h | h
      · rw [h]
      · rw [h]
        cases timelineOfCode (bits (arg c.args 1) 0 8) <;> rfl
    have hrefused := timelineSet_of_refused tick c.args s (by rw [hrange]; decide)
    rw [hrange] at hrefused
    exact take_spec_unchanged .timelineSet (timelineSet tick) s c _ (exec_timelineSet s tick) hdue hkind hrefused

/-! ## PORT_SET (R15) and PORT_MUTE (R123) -/

theorem exec_portSet (s : State) : exec .portSet s = .next (take .portSet portSet s) := rfl
theorem exec_portMute (s : State) : exec .portMute s = .next (take .portMute portMute s) := rfl

theorem timelineOfCode_of_lt (n : Nat) (h : n < 2) : timelineOfCode n = some (if n = 0 then .a else .b) := by
  interval_cases n <;> rfl

theorem State.routeOnPort_ofNat_isSome (s : State) (n : Nat) (hn : n < 8) :
    (s.routeOnPort (Fin.ofNat 8 n)).isSome = true ↔
      ¬∀ i, (s.route i).state.live = true → (s.route i).port.val ≠ n := by
  have hval : (Fin.ofNat 8 n).val = n := Nat.mod_eq_of_lt hn
  simp only [State.routeOnPort_isSome, Fin.ext_iff, hval]
  simp

theorem portSet_eq (args : List Word) (s : State) (n v : Nat) (hn : n = bits (arg args 1) 0 8)
    (hv : v = bits (arg args 1) 8 8) (status : Status)
    (h : status = firstFailure
      [(decide (n < 8), .range), (decide (v < 2), .range),
       (decide (∀ i, (s.route i).state.live = true → (s.route i).port.val ≠ n), .portInUse)]) :
    portSet args s =
      ({ s with
          ports := if status = .ok then
              tset s.ports (Fin.ofNat 8 n) { s.port (Fin.ofNat 8 n) with timeline := if v = 0 then .a else .b }
            else s.ports },
        { status := status, payload := [] }) := by
  subst hn hv h
  simp only [firstFailure_cons, firstFailure_nil, decide_eq_true_eq]
  unfold portSet
  dsimp only
  by_cases hport : bits (arg args 1) 0 8 < 8
  · rw [if_neg (by omega), if_pos hport]
    by_cases hline : bits (arg args 1) 8 8 < 2
    · rw [timelineOfCode_of_lt _ hline, if_pos hline]
      dsimp only
      by_cases hfree : ∀ i, (s.route i).state.live = true → (s.route i).port.val ≠ bits (arg args 1) 0 8
      · rw [if_neg (fun h => (s.routeOnPort_ofNat_isSome _ hport).1 h hfree), if_pos hfree, if_pos rfl]
        rfl
      · rw [if_pos ((s.routeOnPort_ofNat_isSome _ hport).2 hfree), if_neg hfree, if_neg (by decide)]
        rfl
    · rw [timelineOfCode_eq_none_of_one_lt _ (by omega), if_neg hline, if_neg (by decide)]
      rfl
  · rw [if_pos (by omega), if_neg hport, if_neg (by decide)]
    rfl

theorem State.routeOnPort_eq_some (s : State) (p : PortId) (i : RouteId)
    (h : (s.route i).state.live = true ∧ (s.route i).port = p)
    (hlow : ∀ j, j < i → ¬((s.route j).state.live = true ∧ (s.route j).port = p)) : s.routeOnPort p = some i := by
  refine List.find?_finRange_eq_some _ i (by simpa [Route.liveOn] using h) fun j hj => ?_
  simpa [Route.liveOn] using hlow j hj

theorem State.portHandle_eq (s : State) (p : PortId) (handle : Option Nat)
    (h : (∃ i, (s.route i).state.live = true ∧ (s.route i).port = p ∧
          (∀ j, j < i → ¬((s.route j).state.live = true ∧ (s.route j).port = p)) ∧
          handle = some (i.val + 16 * (s.route i).generation.val)) ∨
        ((∀ i, (s.route i).state.live = true → (s.route i).port ≠ p) ∧ handle = none)) :
    s.portHandle p = handle := by
  unfold State.portHandle
  rcases h with ⟨i, hlive, hport, hlow, rfl⟩ | ⟨hnone, rfl⟩
  · rw [s.routeOnPort_eq_some p i ⟨hlive, hport⟩ hlow]
    rfl
  · cases hfound : s.routeOnPort p with
    | none => rfl
    | some i =>
      obtain ⟨j, hlive, hport⟩ := (s.routeOnPort_isSome p).1 (by rw [hfound]; rfl)
      exact absurd hport (hnone j hlive)

theorem portMute_of_value (args : List Word) (s : State) (p : PortId) (hp : p.val = bits (arg args 1) 0 8)
    (hv : bits (arg args 1) 8 8 < 2) :
    portMute args s =
      (s.setPort p { s.port p with mute := bits (arg args 1) 8 8 == 1 },
        Reply.ok [portMuteWord (s.setPort p { s.port p with mute := bits (arg args 1) 8 8 == 1 }) p]) := by
  have hrange : ¬8 ≤ p.val := by omega
  have hport : Fin.ofNat 8 p.val = p := Fin.ofNat_val_eq_self p
  unfold portMute
  dsimp only
  rw [← hp, if_neg hrange, if_neg (by omega), hport]

theorem portMuteWord_muted (s : State) (p : PortId) (v : Nat) (hv : v < 2) (handle : Option Nat)
    (hhandle : s.portHandle p = handle) :
    portMuteWord (s.setPort p { s.port p with mute := v == 1 }) p =
      pack [⟨timelineCode (s.port p).timeline, 0, 1⟩, ⟨v, 1, 1⟩, ⟨(s.port p).content.code, 4, 2⟩,
        ⟨flag handle.isSome, 8, 1⟩, ⟨handle.getD 0, 16, 8⟩] := by
  have hflag : flag (v == 1) = v := by interval_cases v <;> rfl
  have hkept : (s.setPort p { s.port p with mute := v == 1 }).portHandle p = handle := hhandle
  have hport : (s.setPort p { s.port p with mute := v == 1 }).port p = { s.port p with mute := v == 1 } :=
    tget_tset_self _ _ _
  unfold portMuteWord
  rw [hkept, hport]
  dsimp only
  rw [hflag]

/-- Settles O26: `portSet_eq` for PORT_SET; the number and the value in word 1 for PORT_MUTE. -/
theorem portSetAndPortMuteSetThePort : Obligations.PortSetAndPortMuteSetThePort := by
  refine ⟨fun s c n v status hdue hkind hn hv hstatus => ?_, ?_⟩
  · exact take_spec_changed .portSet portSet s _ c _ (exec_portSet s) hdue hkind
      (portSet_eq c.args s n v hn hv status hstatus) rfl
  · rintro s c _ _ hdue hkind rfl rfl
    refine ⟨fun hrange => ?_, fun p handle hp hv hhandle => ?_⟩
    · refine take_spec_unchanged .portMute portMute s c _ (exec_portMute s) hdue hkind ?_
      unfold portMute
      dsimp only
      split
      · rfl
      · next hport => exact if_pos (hrange.resolve_left hport)
    · have heffect := portMute_of_value c.args s p hp hv
      rw [portMuteWord_muted s p _ hv handle (s.portHandle_eq p handle hhandle)] at heffect
      exact take_spec_changed .portMute portMute s _ c _ (exec_portMute s) hdue hkind heffect rfl

/-! ## REFERENCE_SET (R9) -/

theorem exec_referenceSet (s : State) : exec .referenceSet s = .next (take .referenceSet referenceSet s) := rfl

theorem Reference.setMode_eq (r : Reference) (n : Nat) (mode : RefMode) (source : TickSource) (status : Status)
    (h : (n = 0 ∧ mode = r.mode ∧ status = (if r.mode = .auto then .ok else .manualLatched)) ∨
      (n = 1 ∧ mode = .manualExternal ∧ status = .ok) ∨ (n = 2 ∧ mode = .manualInternal ∧ status = .ok) ∨
      (2 < n ∧ mode = r.mode ∧ status = .range))
    (hsource : source = (if mode = .manualInternal ∧ r.mode ≠ .manualInternal then .internal else r.source)) :
    r.setMode n = ({ r with mode := mode, source := source }, status) := by
  have hkept : ∀ m, r.mode = m → ({ r with mode := m } : Reference) = r := fun m h => by rw [← h]
  subst hsource
  unfold Reference.setMode
  rcases h with ⟨rfl, rfl, rfl⟩ | ⟨rfl, rfl, rfl⟩ | ⟨rfl, rfl, rfl⟩ | ⟨hn, rfl, rfl⟩
  · cases hm : r.mode <;> simp [refModeOfCode, hkept _ hm]
  · cases hm : r.mode <;> simp [refModeOfCode, hkept _ hm, sourceAfterMode]
  · cases hm : r.mode <;> simp [refModeOfCode, hkept _ hm, sourceAfterMode]
  · have hnone : refModeOfCode n = none := by
      match n, hn with
      | n + 3, _ => rfl
    rw [hnone, if_neg fun h => h.2 h.1]

/-- Settles O27: `Reference.setMode_eq` gives the Reference Unit and the status. -/
theorem referenceSetLatchesTheMode : Obligations.ReferenceSetLatchesTheMode := by
  rintro s c _ mode source status hdue hkind rfl hmode hsource
  have hset := Reference.setMode_eq s.reference _ mode source status hmode hsource
  have heffect : referenceSet c.args s =
      (s.setReference { s.reference with mode := mode, source := source },
        { status := status, payload := [referenceWord { s.reference with mode := mode, source := source }] }) := by
    unfold referenceSet
    rw [hset]
  obtain ⟨t, hexec, ht, htaken⟩ := take_spec_changed .referenceSet referenceSet s _ c _ (exec_referenceSet s) hdue hkind
    heffect rfl
  refine ⟨t, _, hexec, ht, ?_, htaken⟩
  show (if source = s.reference.source then s.device else s.device.raise .refChange) = _
  split <;> rfl

end Sys2Proof.Machine

/-! MONITOR_SET, EVENTS_TAKE, NOTIFY_SET and DEVICE_READ (R147, R159, R160, R162). -/

namespace Sys2Proof.Machine

/-! ## Words of fields (12) -/

/-- The value of a word of fields that fit their places. -/
theorem pack_toNat_cons (f : Field) (fs : List Field) (n : Nat) (hf : f.value < 2 ^ f.width) (hfs : (pack fs).toNat = n)
    (hsum : f.value * 2 ^ f.lo + n < 2 ^ 32) : (pack (f :: fs)).toNat = f.value * 2 ^ f.lo + n := by
  unfold pack at *
  rw [BitVec.toNat_ofNat] at *
  rw [List.map_cons, List.sum_cons, Nat.mod_eq_of_lt hf, Nat.add_mod, hfs,
    Nat.mod_eq_of_lt (a := f.value * 2 ^ f.lo) (by omega), Nat.mod_eq_of_lt hsum]

theorem pack_four_toNat (a h b g x y z u : Nat) (ha : a < 2 ^ x) (hh : h < 2 ^ y) (hb : b < 2 ^ z)
    (hg : g < 2 ^ u) (hsum : a + 256 * h + 65536 * b + 16777216 * g < 2 ^ 32) :
    (pack [⟨a, 0, x⟩, ⟨h, 8, y⟩, ⟨b, 16, z⟩, ⟨g, 24, u⟩]).toNat = a + 256 * h + 65536 * b + 16777216 * g := by
  have h1 := pack_toNat_cons ⟨g, 24, u⟩ [] 0 hg rfl (by norm_num; omega)
  have h2 := pack_toNat_cons ⟨b, 16, z⟩ _ _ hb h1 (by norm_num; omega)
  have h3 := pack_toNat_cons ⟨h, 8, y⟩ _ _ hh h2 (by norm_num; omega)
  have h4 := pack_toNat_cons ⟨a, 0, x⟩ _ _ ha h3 (by norm_num; omega)
  rw [h4]
  norm_num
  omega
/-! ## MONITOR_SET (R147) -/

theorem exec_monitorSet (s : State) : exec .monitorSet s = .next (take .monitorSet monitorSet s) := rfl

theorem timelineOfCode_eq_none_iff (n : Nat) : timelineOfCode n = none ↔ 2 ≤ n := by
  match n with
  | 0 | 1 => simp [timelineOfCode]
  | n + 2 => simp [timelineOfCode]

theorem monitorView_eq_none (w : Word)
    (h : 2 < bits w 0 8 ∨ (bits w 0 8 = 1 ∧ 8 ≤ bits w 8 8) ∨
      (bits w 0 8 = 2 ∧ (8 ≤ bits w 8 8 ∨ 2 ≤ bits w 16 8))) : monitorView w = none := by
  unfold monitorView
  rcases h with h | ⟨h, hport⟩ | ⟨h, hfeed⟩
  · split
    · omega
    · omega
    · omega
    · rfl
  · rw [h]
    exact if_neg (by omega)
  · rw [h]
    show (if bits w 8 8 < 8 then (timelineOfCode (bits w 16 8)).map _ else none) = none
    split
    · rw [(timelineOfCode_eq_none_iff _).2 (by omega)]
      rfl
    · rfl

theorem monitorView_eq_some (w : Word) (view : MonitorView)
    (h : (bits w 0 8 = 0 ∧ view = .off) ∨
      (bits w 0 8 = 1 ∧ ∃ p : PortId, p.val = bits w 8 8 ∧ view = .port p) ∨
      (bits w 0 8 = 2 ∧ ∃ (f : FeedId) (u : TimelineId), f.val = bits w 8 8 ∧ timelineOfCode (bits w 16 8) = some u ∧
        view = .feed f u)) : monitorView w = some view := by
  unfold monitorView
  rcases h with ⟨h, rfl⟩ | ⟨h, p, hp, rfl⟩ | ⟨h, f, u, hf, hu, rfl⟩
  · rw [h]
    rfl
  · rw [h, ← hp]
    show (if p.val < 8 then some (MonitorView.port (Fin.ofNat 8 p.val)) else none) = _
    rw [if_pos p.isLt, show Fin.ofNat 8 p.val = p from Fin.ofNat_val_eq_self p]
  · rw [h, ← hf, hu]
    show (if f.val < 8 then some (MonitorView.feed (Fin.ofNat 8 f.val) u) else none) = _
    rw [if_pos f.isLt, show Fin.ofNat 8 f.val = f from Fin.ofNat_val_eq_self f]

theorem MonitorView.sameFeed_iff (old new : MonitorView) :
    old.sameFeed new = true ↔ ∃ f u v, old = .feed f u ∧ new = .feed f v := by
  unfold MonitorView.sameFeed
  split
  · next f u g v =>
    rw [beq_iff_eq]
    constructor
    · rintro rfl
      exact ⟨_, _, _, rfl, rfl⟩
    · rintro ⟨_, _, _, h, h'⟩
      cases h
      cases h'
      rfl
  · next h => exact ⟨fun hf => absurd hf Bool.false_ne_true, fun ⟨f, u, v, ho, hn⟩ => absurd hn (h f u f v ho)⟩

/-- A pin count lowered and then a hold count settle as both lowered at once. -/
theorem Slot.settle_lower_both (x : Slot) (a n : Nat) :
    { ({ x with pin := a } : Slot).settle with hold := x.hold - n }.settle =
      ({ x with pin := a, hold := x.hold - n } : Slot).settle := by
  by_cases h : x.state = .ready ∧ x.hold = 0 ∧ a = 0
  · obtain ⟨hready, hhold, ha⟩ := h
    simp [Slot.settle, hready, hhold, ha]
  · rw [Slot.settle_of_not { x with pin := a } h]

/-- The slots of the monitor's old view: its pair's pin, and its latest's hold unless the latest is kept (R147). -/
theorem State.setView_slot (s : State) (view : MonitorView) (keep : Bool) (hkeep : s.monitor.view.sameFeed view = keep)
    (k : SlotId) :
    (s.setView view).slot k =
      if s.monitor.pair = some k ∨ (s.monitor.latest = some k ∧ keep = false) then
        { s.slot k with
          pin := (s.slot k).pin - (if s.monitor.pair = some k then 1 else 0)
          hold := (s.slot k).hold - (if s.monitor.latest = some k ∧ keep = false then 1 else 0) }.settle
      else s.slot k := by
  have hslot : (s.setView view).slot k =
      tget (SlotTable.unholdAll (SlotTable.releasePair s.slots s.monitor.pair.toList)
        (if keep then [] else s.monitor.latest.toList)) k := by rw [← hkeep]; rfl
  have hcount : ∀ o : Option SlotId, o.toList.count k = if o = some k then 1 else 0 := fun o => by
    cases o with
    | none => rfl
    | some i =>
      by_cases h : i = k <;> simp [h]
  have hmem : ∀ o : Option SlotId, k ∈ o.toList ↔ o = some k := fun o => by simp
  have hpair : tget (SlotTable.releasePair s.slots s.monitor.pair.toList) k =
      if s.monitor.pair = some k then { s.slot k with pin := (s.slot k).pin - 1 }.settle else s.slot k := by
    rw [SlotTable.releasePair_slot, hcount]
    by_cases h : s.monitor.pair = some k
    · rw [if_pos ((hmem _).2 h), if_pos h, if_pos h]
      rfl
    · rw [if_neg (fun hk => h ((hmem _).1 hk)), if_neg h]
      rfl
  rw [hslot, SlotTable.unholdAll_slot, hpair]
  by_cases hlatest : s.monitor.latest = some k ∧ keep = false
  · obtain ⟨hlatest, rfl⟩ := hlatest
    rw [if_neg Bool.false_ne_true, if_pos ((hmem _).2 hlatest), hcount, if_pos hlatest,
      if_pos (c := s.monitor.pair = some k ∨ _) (.inr ⟨hlatest, rfl⟩),
      if_pos (c := s.monitor.latest = some k ∧ _) ⟨hlatest, rfl⟩]
    by_cases h : s.monitor.pair = some k
    · rw [if_pos h, if_pos h, Slot.settle_hold]
      exact Slot.settle_lower_both _ _ _
    · rw [if_neg h, if_neg h]
      rfl
  · have hout : k ∉ (if keep = true then [] else s.monitor.latest.toList) := by
      cases keep
      · exact fun hk => hlatest ⟨(hmem _).1 hk, rfl⟩
      · simp
    rw [if_neg hout, if_neg (c := s.monitor.latest = some k ∧ _) hlatest]
    by_cases h : s.monitor.pair = some k
    · rw [if_pos h, if_pos (.inl h), if_pos h]
      rfl
    · rw [if_neg h, if_neg (fun hor => hor.elim h hlatest)]

theorem monitorSet_of_view (args : List Word) (s : State) (view : MonitorView)
    (h : monitorView (arg args 1) = some view) :
    monitorSet args s =
      (if view = s.monitor.view then s else s.setView view,
        Reply.ok (monitorWords (if view = s.monitor.view then s else s.setView view).monitor
          (if view = s.monitor.view then s else s.setView view).slots)) := by
  unfold monitorSet
  rw [h]

/-- Settles O29: the view named by `monitorView`, the slots let go by `State.setView_slot`. -/
theorem monitorSetChangesTheView : Obligations.MonitorSetChangesTheView := by
  rintro s c _ _ _ hdue hkind rfl rfl rfl
  refine ⟨fun hrange => ?_, fun view keep hview hkeep => ⟨fun hsame => ?_, fun hother => ?_⟩⟩
  · refine take_spec_unchanged .monitorSet monitorSet s c _ (exec_monitorSet s) hdue hkind ?_
    unfold monitorSet
    rw [monitorView_eq_none _ hrange]
    rfl
  · have heffect := monitorSet_of_view c.args s view (monitorView_eq_some _ view hview)
    rw [if_pos hsame] at heffect
    exact take_spec_unchanged .monitorSet monitorSet s c _ (exec_monitorSet s) hdue hkind heffect
  · have heffect := monitorSet_of_view c.args s view (monitorView_eq_some _ view hview)
    rw [if_neg hother] at heffect
    have hsame : s.monitor.view.sameFeed view = keep := by
      rw [Bool.eq_iff_iff, MonitorView.sameFeed_iff, hkeep]
    obtain ⟨t, hexec, ht, htaken⟩ := take_spec_changed .monitorSet monitorSet s _ c _ (exec_monitorSet s) hdue hkind
      heffect rfl
    have hmonitor : t.monitor = (s.setView view).monitor := by rw [ht]
    have hslots : t.slots = (s.setView view).slots := by rw [ht]
    refine ⟨t, hexec, ?_, fun k => ?_, ?_⟩
    · rw [ht, ← hsame]
      rfl
    · exact (congrArg (fun v => tget v k) hslots).trans (s.setView_slot view keep hsame k)
    · rw [hmonitor, hslots]
      exact htaken

/-! ## EVENTS_TAKE (R159) and NOTIFY_SET (R160) -/

theorem exec_eventsTake (s : State) : exec .eventsTake s = .next (take .eventsTake eventsTake s) := rfl
theorem exec_notifySet (s : State) : exec .notifySet s = .next (take .notifySet notifySet s) := rfl

theorem eventsTake_of_route (args : List Word) (s : State) (h : bits (arg args 1) 0 8 = 0) :
    eventsTake args s = takeRouteEvents args s := by
  unfold eventsTake
  rw [h]
  rfl

theorem eventsTake_of_feed (args : List Word) (s : State) (h : bits (arg args 1) 0 8 = 1) :
    eventsTake args s = takeFeedEvents args s := by
  unfold eventsTake
  rw [h]
  rfl

theorem eventsTake_of_device (args : List Word) (s : State) (h : bits (arg args 1) 0 8 = 2) :
    eventsTake args s = takeDeviceEvents s := by
  unfold eventsTake
  rw [h]
  rfl

theorem eventsTake_of_unknown (args : List Word) (s : State) (h : 2 < bits (arg args 1) 0 8) :
    eventsTake args s = (s, Reply.refusal .range) := by
  unfold eventsTake
  split
  · omega
  · omega
  · omega
  · rfl

/-- Settles O30: the scope for EVENTS_TAKE, the enable for NOTIFY_SET. -/
theorem eventsTakeAndNotifySet : Obligations.EventsTakeAndNotifySet := by
  constructor
  · rintro s c _ _ hdue hkind rfl rfl
    refine ⟨fun hrange => ?_, fun i hscope hvalid hi => ?_, fun f hscope hf => ?_, fun hscope => ?_⟩
    · refine take_spec_unchanged .eventsTake eventsTake s c _ (exec_eventsTake s) hdue hkind ?_
      rcases hrange with h | ⟨hscope, h⟩
      · exact eventsTake_of_unknown c.args s h
      · exact (eventsTake_of_feed c.args s hscope).trans (if_pos h)
    · refine take_spec_changed .eventsTake eventsTake s (s.setRoute i { s.route i with events := 0 }) c _
        (exec_eventsTake s) hdue hkind ?_ rfl
      rw [eventsTake_of_route c.args s hscope, hi]
      exact if_pos hvalid
    · have hfeed : Fin.ofNat 8 f.val = f := Fin.ofNat_val_eq_self f
      refine take_spec_changed .eventsTake eventsTake s (s.setFeed f { s.feed f with events := 0 }) c _
        (exec_eventsTake s) hdue hkind ?_ rfl
      rw [eventsTake_of_feed c.args s hscope]
      unfold takeFeedEvents
      dsimp only
      rw [← hf, hfeed, if_neg (by omega)]
    · exact take_spec_changed .eventsTake eventsTake s _ c _ (exec_eventsTake s) hdue hkind
        (eventsTake_of_device c.args s hscope) rfl
  · rintro s c _ d hdue hkind rfl hd
    have hmasks : s.device.setMasks c.args = d := hd.symm
    refine ⟨fun hrange => ?_, fun hvalue => ?_⟩
    · exact take_spec_unchanged .notifySet notifySet s c _ (exec_notifySet s) hdue hkind (if_pos hrange)
    · refine take_spec_changed .notifySet notifySet s { s with device := d } c _ (exec_notifySet s) hdue hkind ?_ rfl
      unfold notifySet
      rw [if_neg (by omega), hmasks]
      rfl

/-! ## DEVICE_READ (R162) -/

theorem exec_deviceRead (s : State) : exec .deviceRead s = .next (take .deviceRead deviceRead s) := rfl

/-- The fields of a word that holds two records' states and handles. -/
theorem bits_pack_routes (a h b g : Nat) (ha : a < 8) (hh : h < 256) (hb : b < 8) (hg : g < 256) :
    bits (pack [⟨a, 0, 3⟩, ⟨h, 8, 8⟩, ⟨b, 16, 3⟩, ⟨g, 24, 8⟩]) 0 3 = a ∧
      bits (pack [⟨a, 0, 3⟩, ⟨h, 8, 8⟩, ⟨b, 16, 3⟩, ⟨g, 24, 8⟩]) 8 8 = h ∧
      bits (pack [⟨a, 0, 3⟩, ⟨h, 8, 8⟩, ⟨b, 16, 3⟩, ⟨g, 24, 8⟩]) 16 3 = b ∧
      bits (pack [⟨a, 0, 3⟩, ⟨h, 8, 8⟩, ⟨b, 16, 3⟩, ⟨g, 24, 8⟩]) 24 8 = g := by
  have hword := pack_four_toNat a h b g 3 8 3 8 ha hh hb hg (by norm_num; omega)
  simp only [bits, hword]
  norm_num
  omega

theorem RouteState.code_lt (x : RouteState) : x.code < 8 := by cases x <;> decide

/-- The handle that DEVICE_READ gives of a record: 0 unless it is live. -/
def Route.liveHandle (i : RouteId) (r : Route) : Nat := if r.state.live then i.val + 16 * r.generation.val else 0

theorem Route.liveHandle_lt (i : RouteId) (r : Route) : r.liveHandle i < 256 := by
  unfold Route.liveHandle
  split <;> omega

theorem deviceRouteWords_getElem (s : State) (k : Fin 8) :
    (deviceRouteWords s)[k.val]? = some (pack
      [⟨(s.route ⟨2 * k.val, by omega⟩).state.code, 0, 3⟩,
       ⟨(s.route ⟨2 * k.val, by omega⟩).liveHandle ⟨2 * k.val, by omega⟩, 8, 8⟩,
       ⟨(s.route ⟨2 * k.val + 1, by omega⟩).state.code, 16, 3⟩,
       ⟨(s.route ⟨2 * k.val + 1, by omega⟩).liveHandle ⟨2 * k.val + 1, by omega⟩, 24, 8⟩]) := by
  unfold deviceRouteWords
  rw [List.getElem?_map, List.getElem?_eq_getElem (by simp)]
  simp only [List.getElem_finRange, Option.map_some]
  rfl

/-- A record's state and handle in its half of the word of its pair. -/
theorem deviceRouteWords_half (s : State) (i : RouteId) (w : Word) (h : (deviceRouteWords s)[i.val / 2]? = some w) :
    bits w (16 * (i.val % 2)) 3 = (s.route i).state.code ∧
      bits w (16 * (i.val % 2) + 8) 8 = (s.route i).liveHandle i := by
  have hw := (deviceRouteWords_getElem s ⟨i.val / 2, by omega⟩).symm.trans h
  have hword := Option.some.inj hw
  have hbits := bits_pack_routes _ _ _ _
    (s.route ⟨2 * (i.val / 2), by omega⟩).state.code_lt
    ((s.route ⟨2 * (i.val / 2), by omega⟩).liveHandle_lt ⟨2 * (i.val / 2), by omega⟩)
    (s.route ⟨2 * (i.val / 2) + 1, by omega⟩).state.code_lt
    ((s.route ⟨2 * (i.val / 2) + 1, by omega⟩).liveHandle_lt ⟨2 * (i.val / 2) + 1, by omega⟩)
  dsimp only at hword
  rw [hword] at hbits
  obtain ⟨hstate, hhandle, hstate', hhandle'⟩ := hbits
  rcases Nat.mod_two_eq_zero_or_one i.val with hmod | hmod
  · have hi : (⟨2 * (i.val / 2), by omega⟩ : RouteId) = i := Fin.ext (by show 2 * (i.val / 2) = i.val; omega)
    rw [hi] at hstate hhandle
    rw [hmod]
    exact ⟨hstate, hhandle⟩
  · have hi : (⟨2 * (i.val / 2) + 1, by omega⟩ : RouteId) = i :=
      Fin.ext (by show 2 * (i.val / 2) + 1 = i.val; omega)
    rw [hi] at hstate' hhandle'
    rw [hmod]
    exact ⟨hstate', hhandle'⟩

theorem deviceFeedWord_eq (s : State) (f : FeedId) :
    deviceFeedWord s f = pack [⟨(s.feed f).state.code, 0, 3⟩,
      ⟨if ∃ k, k ∈ feedSlots f ∧ (s.slot k).state = .writing then 1 else 0, 3, 1⟩,
      ⟨(feedSlots f).countP (fun k => (s.slot k).state == .ready), 4, 5⟩,
      ⟨((feedSlots f).map (fun k => (s.slot k).hold)).sum, 12, 9⟩,
      ⟨((feedSlots f).map (fun k => (s.slot k).pin)).sum, 22, 9⟩] := by
  have hwriting : flag (((feedSlots f).map s.slot).any (fun x => x.state == .writing)) =
      if ∃ k, k ∈ feedSlots f ∧ (s.slot k).state = .writing then 1 else 0 := by
    have hany : ((feedSlots f).map s.slot).any (fun x => x.state == .writing) = true ↔
        ∃ k, k ∈ feedSlots f ∧ (s.slot k).state = .writing := by simp
    simp only [flag, hany]
  unfold deviceFeedWord
  dsimp only
  rw [hwriting, List.countP_map, List.map_map, List.map_map]
  rfl

theorem loaderWords_length (r : LoaderResult) : (loaderWords r).length = 8 := rfl
theorem monitorWords_length (m : Monitor) (t : SlotTable) : (monitorWords m t).length = 3 := rfl

theorem deviceRouteWords_length (s : State) : (deviceRouteWords s).length = 8 := by
  simp [deviceRouteWords]

/-- Settles O31: the parts of the reply stand one after another, each at its place. -/
theorem deviceReadCarriesThePart : Obligations.DeviceReadCarriesThePart := by
  intro s c hdue hkind
  obtain ⟨t, hexec, ht, htaken⟩ := take_spec_unchanged .deviceRead deviceRead s c _ (exec_deviceRead s) hdue hkind rfl
  have hroutes := deviceRouteWords_length s
  have hhalf := deviceRouteWords_half s
  have hmonitor := monitorWords_length s.monitor s.slots
  have hloader := loaderWords_length s.loader.result
  have hfeeds : ((List.finRange 8).map (deviceFeedWord s)).length = 8 := by simp
  have hports : ((List.finRange 8).map (devicePortWord s)).length = 8 := by simp
  have hfeed : ∀ f : FeedId, ((List.finRange 8).map (deviceFeedWord s))[f.val]? = some (deviceFeedWord s f) :=
    fun f => by simp
  have hport : ∀ p : PortId, ((List.finRange 8).map (devicePortWord s))[p.val]? = some (devicePortWord s p) :=
    fun p => by simp
  have hwords : (Reply.ok (deviceReadWords s)).payload = deviceReadWords s := rfl
  refine ⟨t, _, hexec, ht, htaken, rfl, ?_⟩
  rw [hwords]
  unfold deviceReadWords
  generalize deviceRouteWords s = routes at *
  generalize (List.finRange 8).map (deviceFeedWord s) = feeds at *
  generalize (List.finRange 8).map (devicePortWord s) = ports at *
  generalize monitorWords s.monitor s.slots = monitor at *
  generalize loaderWords s.loader.result = loader at *
  refine ⟨?_, rfl, fun i w hw => ?_, fun f => ?_, fun p => ?_, ?_, ?_, ?_⟩
  · simp [hroutes, hfeeds, hports, hmonitor, hloader]
  · refine hhalf i w ?_
    rw [← hw]
    simp only [List.append_assoc]
    rw [List.getElem?_append_right (by simp), List.getElem?_append_left (by simp; omega)]
    simp
  · rw [← deviceFeedWord_eq, ← hfeed f]
    simp only [List.append_assoc]
    rw [List.getElem?_append_right (by simp; omega), List.getElem?_append_right (by simp; omega),
      List.getElem?_append_left (by simp; omega)]
    congr 1
    simp [hroutes]
    omega
  · rw [← hport p]
    simp only [List.append_assoc]
    rw [List.getElem?_append_right (by simp; omega), List.getElem?_append_right (by simp; omega),
      List.getElem?_append_right (by simp; omega), List.getElem?_append_left (by simp; omega)]
    congr 1
    simp [hroutes, hfeeds]
    omega
  · simp only [List.append_assoc (_ ++ ports)]
    rw [List.drop_left' (by simp [hroutes, hfeeds, hports]), List.append_assoc, List.take_left' hmonitor]
  · simp only [List.append_assoc (_ ++ monitor)]
    rw [List.drop_left' (by simp [hroutes, hfeeds, hports, hmonitor]), List.take_left' hloader]
  · exact List.drop_left' (by simp [hroutes, hfeeds, hports, hmonitor, hloader])

end Sys2Proof.Machine

/-! The answer of a due ring command: what a refusal keeps (R153, R157), and the refusal of stale handles (R56). -/

namespace Sys2Proof.Machine

/-! ## Answers -/

/-- The answer of an effect: it leaves the Command Unit alone, and a refusal carries its status alone and leaves the
state as it was. -/
structure Answers (s : State) (x : State × Reply) : Prop where
  cu      : x.1.cu = s.cu
  state   : x.2.status ≠ .ok → x.1 = s
  payload : x.2.status ≠ .ok → x.2.payload = []

theorem Answers.refuse (s : State) (st : Status) : Answers s (refuse s st) := ⟨rfl, fun _ => rfl, fun _ => rfl⟩

theorem Answers.ok {s u : State} (words : List Word) (hcu : u.cu = s.cu) : Answers s (u, Reply.ok words) :=
  ⟨hcu, fun h => absurd rfl h, fun h => absurd rfl h⟩

theorem Answers.withHandle {s : State} (args : List Word) {k : RouteId → State × Reply} (h : ∀ i, Answers s (k i)) :
    Answers s (withHandle args s k) := by
  unfold Machine.withHandle
  split
  · exact h _
  · exact .refuse s _

theorem tryOpen_answers (q : OpenRequest) (s : State) : Answers s (tryOpen q s) := by
  unfold tryOpen
  split
  · exact .ok _ rfl
  · exact .refuse s _

theorem presetOpen_answers (args : List Word) (s : State) : Answers s (presetOpen args s) := by
  unfold presetOpen
  dsimp only
  split
  · exact .refuse s _
  · split
    · exact .refuse s _
    · exact tryOpen_answers _ s

theorem routeAlter_answers (args : List Word) (s : State) : Answers s (routeAlter args s) := by
  refine .withHandle args fun i => ?_
  dsimp only
  split
  · exact .ok _ rfl
  · exact .refuse s _

theorem routeClose_answers (args : List Word) (s : State) : Answers s (routeClose args s) :=
  .withHandle args fun _ => .ok _ rfl

theorem routeRead_answers (args : List Word) (s : State) : Answers s (routeRead args s) :=
  .withHandle args fun i => .ok _ (by split <;> rfl)

theorem routeHold_answers (args : List Word) (s : State) : Answers s (routeHold args s) :=
  .withHandle args fun _ => .ok _ rfl

theorem routeRelease_answers (args : List Word) (s : State) : Answers s (routeRelease args s) :=
  .withHandle args fun _ => .ok _ rfl

theorem routeTrim_answers (args : List Word) (s : State) : Answers s (routeTrim args s) := by
  refine .withHandle args fun i => ?_
  dsimp only
  split
  · exact .refuse s _
  · exact .ok _ rfl

theorem checkSet_answers (args : List Word) (s : State) : Answers s (checkSet args s) := by
  refine .withHandle args fun i => ?_
  dsimp only
  split
  · exact .refuse s _
  · exact .ok _ rfl

theorem feedSet_answers (args : List Word) (s : State) : Answers s (feedSet args s) := by
  by_cases h : feedSetStatus s (feedRequestOfWords args) = .ok
  · rw [feedSet_of_ok args s h]
    exact .ok _ (by rw [State.applyFeedSet_only])
  · rw [feedSet_of_refused args s h]
    exact .refuse s _

theorem feedRead_answers (args : List Word) (s : State) : Answers s (feedRead args s) := by
  unfold feedRead
  dsimp only
  split
  · exact .refuse s _
  · exact .ok _ (by split <;> rfl)

theorem trackSet_answers (args : List Word) (s : State) : Answers s (trackSet args s) := by
  unfold trackSet
  dsimp only
  split
  · exact .refuse s _
  · split
    · exact .refuse s _
    · exact .ok _ rfl

theorem profileWrite_answers (args : List Word) (s : State) : Answers s (profileWrite args s) := by
  rw [profileWrite_eq args s _ rfl]
  exact ⟨rfl, fun h => by rw [if_neg h], fun _ => rfl⟩

theorem profileRead_answers (args : List Word) (s : State) : Answers s (profileRead args s) := by
  unfold profileRead
  dsimp only
  split
  · exact .refuse s _
  · exact .ok _ rfl

theorem timelineSet_answers (tick : Tick) (args : List Word) (s : State) : Answers s (timelineSet tick args s) := by
  unfold timelineSet
  dsimp only
  split
  · exact .ok _ (by rw [State.setTimeline_cu]; rfl)
  · exact .refuse s _

theorem timelineRead_answers (args : List Word) (s : State) : Answers s (timelineRead args s) := by
  unfold timelineRead
  split
  · exact .refuse s _
  · exact .ok _ rfl

theorem portSet_answers (args : List Word) (s : State) : Answers s (portSet args s) := by
  unfold portSet
  dsimp only
  split
  · exact .refuse s _
  · split
    · exact .refuse s _
    · split
      · exact .refuse s _
      · exact .ok _ rfl

theorem portMute_answers (args : List Word) (s : State) : Answers s (portMute args s) := by
  unfold portMute
  dsimp only
  split
  · exact .refuse s _
  · split
    · exact .refuse s _
    · exact .ok _ rfl

theorem monitorSet_answers (args : List Word) (s : State) : Answers s (monitorSet args s) := by
  unfold monitorSet
  split
  · exact .refuse s _
  · exact .ok _ (by split <;> rfl)

theorem eventsTake_answers (args : List Word) (s : State) : Answers s (eventsTake args s) := by
  unfold eventsTake takeRouteEvents takeFeedEvents takeDeviceEvents
  dsimp only
  split
  · split
    · exact .ok _ rfl
    · exact .refuse s _
  · split
    · exact .refuse s _
    · exact .ok _ rfl
  · exact .ok _ rfl
  · exact .refuse s _

theorem notifySet_answers (args : List Word) (s : State) : Answers s (notifySet args s) := by
  unfold notifySet
  split
  · exact .refuse s _
  · exact .ok _ rfl

/-- A refused REFERENCE_SET leaves the state as it was; its reply carries the Reference Unit all the same (R9). -/
theorem referenceSet_refused (args : List Word) (s : State) (h : (referenceSet args s).2.status ≠ .ok) :
    (referenceSet args s).1 = s := by
  have hsame : ((s.reference.setMode (bits (arg args 1) 0 8)).1) = s.reference := by
    change (s.reference.setMode (bits (arg args 1) 0 8)).2 ≠ .ok at h
    unfold Reference.setMode at h ⊢
    split
    · rfl
    · split
      · rfl
      · split
        · rfl
        · next hr hm ha => simp [hr, hm, ha] at h
  show s.setReference (s.reference.setMode (bits (arg args 1) 0 8)).1 = s
  rw [hsame]
  unfold State.setReference
  rw [if_pos rfl]

/-- What O5 says of a due command. -/
def AnswersDue (ins : Instr) (s : State) (c : Command) : Prop :=
  ∃ t d r, exec ins s = .next t ∧ Taken s t d c r ∧
    (r.status ≠ .ok → t = { s with cu := t.cu, device := t.device } ∧ d = s.device) ∧
    (r.status ≠ .ok → c.kind ≠ .referenceSet → r.payload = []) ∧ (c.kind = .referenceSet → r.payload.length = 1)

theorem Answers.due {ins : Instr} (k : CmdKind) (effect : List Word → State → State × Reply) {s : State} {c : Command}
    (h : Answers s (effect c.args s)) (hexec : exec ins s = .next (take k effect s)) (hdue : s.dueCommand = some c)
    (hkind : c.kind = k) (hk : k ≠ .referenceSet) : AnswersDue ins s c := by
  obtain ⟨t, ht, hstate, htaken⟩ := take_spec_changed k effect s _ c _ hexec hdue hkind rfl h.cu
  refine ⟨t, _, _, ht, htaken, fun hne => ?_, fun hne _ => h.payload hne, fun hr => absurd (hkind.symm.trans hr) hk⟩
  rw [h.state hne] at hstate ⊢
  exact ⟨hstate, rfl⟩

/-- Settles O5: each kind's effect answers (`Answers`), REFERENCE_SET's by `referenceSet_refused`. -/
theorem refusedCommandsChangeNothing : Obligations.RefusedCommandsChangeNothing := by
  intro s c tick hdue
  show AnswersDue (ringInstr tick c.kind) s c
  cases hkind : c.kind
  case routeOpen => exact (tryOpen_answers _ s).due .routeOpen routeOpen rfl hdue hkind (by decide)
  case routeAlter => exact (routeAlter_answers c.args s).due .routeAlter routeAlter rfl hdue hkind (by decide)
  case routeClose => exact (routeClose_answers c.args s).due .routeClose routeClose rfl hdue hkind (by decide)
  case routeRead => exact (routeRead_answers c.args s).due .routeRead routeRead rfl hdue hkind (by decide)
  case routeHold => exact (routeHold_answers c.args s).due .routeHold routeHold rfl hdue hkind (by decide)
  case routeRelease => exact (routeRelease_answers c.args s).due .routeRelease routeRelease rfl hdue hkind (by decide)
  case routeTrim => exact (routeTrim_answers c.args s).due .routeTrim routeTrim rfl hdue hkind (by decide)
  case presetOpen => exact (presetOpen_answers c.args s).due .presetOpen presetOpen rfl hdue hkind (by decide)
  case feedSet => exact (feedSet_answers c.args s).due .feedSet feedSet rfl hdue hkind (by decide)
  case feedRead => exact (feedRead_answers c.args s).due .feedRead feedRead rfl hdue hkind (by decide)
  case trackSet => exact (trackSet_answers c.args s).due .trackSet trackSet rfl hdue hkind (by decide)
  case profileWrite => exact (profileWrite_answers c.args s).due .profileWrite profileWrite rfl hdue hkind (by decide)
  case profileRead => exact (profileRead_answers c.args s).due .profileRead profileRead rfl hdue hkind (by decide)
  case timelineSet =>
    exact (timelineSet_answers tick c.args s).due .timelineSet (timelineSet tick) rfl hdue hkind (by decide)
  case timelineRead => exact (timelineRead_answers c.args s).due .timelineRead timelineRead rfl hdue hkind (by decide)
  case portSet => exact (portSet_answers c.args s).due .portSet portSet rfl hdue hkind (by decide)
  case portMute => exact (portMute_answers c.args s).due .portMute portMute rfl hdue hkind (by decide)
  case monitorSet => exact (monitorSet_answers c.args s).due .monitorSet monitorSet rfl hdue hkind (by decide)
  case checkSet => exact (checkSet_answers c.args s).due .checkSet checkSet rfl hdue hkind (by decide)
  case eventsTake => exact (eventsTake_answers c.args s).due .eventsTake eventsTake rfl hdue hkind (by decide)
  case notifySet => exact (notifySet_answers c.args s).due .notifySet notifySet rfl hdue hkind (by decide)
  case deviceRead => exact (Answers.ok _ rfl).due .deviceRead deviceRead rfl hdue hkind (by decide)
  case referenceSet =>
    obtain ⟨t, hexec, hstate, htaken⟩ := take_spec_changed .referenceSet referenceSet s _ c _ (exec_referenceSet s) hdue
      hkind rfl rfl
    refine ⟨t, _, _, hexec, htaken, fun hne => ?_, fun _ hk => absurd hkind hk, fun _ => rfl⟩
    have hsame : s.setReference (s.reference.setMode (bits (arg c.args 1) 0 8)).1 = s :=
      referenceSet_refused c.args s hne
    rw [hsame] at hstate ⊢
    exact ⟨hstate, rfl⟩

/-! ## Stale handles (R56) -/

theorem State.handleValid_of_stale (s : State) (h : Nat) (i : RouteId) (hi : i.val = h % 16)
    (hstale : (s.route i).state = .free ∨ (s.route i).state = .closing ∨ (s.route i).generation.val ≠ h / 16) :
    s.handleValid h = false := by
  have hindex : handleIndex h = i := Fin.ext hi.symm
  unfold State.handleValid
  rw [hindex]
  rcases hstale with h | h | h
  · rw [h]
    rfl
  · rw [h]
    rfl
  · rw [decide_eq_false h, Bool.and_false]

/-- Settles O6: every command that names a route checks its handle first (`withHandle_of_stale`). -/
theorem staleHandlesAreRefused : Obligations.StaleHandlesAreRefused := by
  intro s c tick h i hdue hnames hi hstale
  have hinvalid := s.handleValid_of_stale h i hi hstale
  rcases hnames with ⟨hnames, rfl⟩ | ⟨hkind, hscope, rfl⟩
  · have refused : ∀ k effect, exec (ringInstr tick c.kind) s = .next (take k effect s) → c.kind = k →
        (∃ f, effect c.args s = withHandle c.args s f) →
        ∃ t, exec (ringInstr tick c.kind) s = .next t ∧ t = { s with cu := t.cu, device := t.device } ∧
          Taken s t s.device c { status := .stale, payload := [] } := by
      rintro k effect hexec hkind ⟨f, hf⟩
      exact take_spec_unchanged k effect s c _ hexec hdue hkind (hf.trans (withHandle_of_stale c.args s f hinvalid))
    cases hkind : c.kind <;> rw [hkind] at hnames refused
    case routeAlter => exact refused .routeAlter routeAlter rfl rfl ⟨_, rfl⟩
    case routeClose => exact refused .routeClose routeClose rfl rfl ⟨_, rfl⟩
    case routeRead => exact refused .routeRead routeRead rfl rfl ⟨_, rfl⟩
    case routeHold => exact refused .routeHold routeHold rfl rfl ⟨_, rfl⟩
    case routeRelease => exact refused .routeRelease routeRelease rfl rfl ⟨_, rfl⟩
    case routeTrim => exact refused .routeTrim routeTrim rfl rfl ⟨_, rfl⟩
    case checkSet => exact refused .checkSet checkSet rfl rfl ⟨_, rfl⟩
    all_goals exact absurd hnames Bool.false_ne_true
  · rw [hkind]
    refine take_spec_unchanged .eventsTake eventsTake s c _ (exec_eventsTake s) hdue hkind ?_
    rw [eventsTake_of_route c.args s hscope]
    exact if_neg (by rw [hinvalid]; exact Bool.false_ne_true)

end Sys2Proof.Machine

/-! The rings and the control window: replies (R152), evaluations (R148, R151, R154), ring resets (R155), and the
reads and writes of the window (R148 to R150, R171). -/

namespace Sys2Proof.Machine

/-! ## Words of four bytes (12) -/

/-- Only the bits of a field that its width holds are packed. -/
theorem pack_fields_mod (fs : List Field) :
    pack (fs.map fun f => { f with value := f.value % 2 ^ f.width }) = pack fs := by
  unfold pack
  rw [List.map_map]
  congr 2
  refine List.map_congr_left fun f _ => ?_
  show f.value % 2 ^ f.width % 2 ^ f.width * 2 ^ f.lo = f.value % 2 ^ f.width * 2 ^ f.lo
  rw [Nat.mod_mod]

theorem bits_pack_bytes (a b c d : Nat) (w : Word)
    (hw : w = pack [⟨a, 0, 8⟩, ⟨b, 8, 8⟩, ⟨c, 16, 8⟩, ⟨d, 24, 8⟩]) :
    bits w 0 8 = a % 256 ∧ bits w 8 8 = b % 256 ∧ bits w 16 8 = c % 256 ∧ bits w 24 8 = d % 256 := by
  have hlt : ∀ n : Nat, n % 2 ^ 8 < 2 ^ 8 := fun n => Nat.mod_lt _ (by norm_num)
  have hword : w.toNat = a % 2 ^ 8 + 256 * (b % 2 ^ 8) + 65536 * (c % 2 ^ 8) + 16777216 * (d % 2 ^ 8) := by
    rw [hw, ← pack_fields_mod]
    exact pack_four_toNat _ _ _ _ 8 8 8 8 (hlt a) (hlt b) (hlt c) (hlt d) (by
      have := hlt a; have := hlt b; have := hlt c; have := hlt d
      norm_num at *
      omega)
  simp only [bits, hword]
  norm_num
  omega

/-! ## The reply (R152) -/

theorem kindCode_lt (k : CmdKind) : kindCode k < 256 := by cases k <;> decide
theorem Status.code_lt (st : Status) : st.code < 256 := by cases st <;> decide

/-- Settles O4: the words by `writeReply_inside` and `writeReply_outside`, the header by its four bytes. -/
theorem replyIsWrittenWhole : Obligations.ReplyIsWrittenWhole := by
  intro cu c r hpayload htag hlength
  have hring : (cu.reply c r).replyRing = writeReply cu.replyRing cu.replyWrite (replyHeader c r :: r.payload) := rfl
  have hlen : (replyHeader c r :: r.payload).length ≤ 512 := by
    rw [List.length_cons]
    omega
  have hheader : tget (cu.reply c r).replyRing cu.replyWrite = replyHeader c r := by
    have h := writeReply_inside cu.replyRing cu.replyWrite (replyHeader c r :: r.payload) 0 (by simp) hlen
    rw [show cu.replyWrite + Fin.ofNat 512 0 = cu.replyWrite from Fin.add_zero _] at h
    exact h
  obtain ⟨hkind, htag', hstatus, hlength'⟩ := bits_pack_bytes (kindCode c.kind) c.tag r.status.code
    (r.payload.length + 1)
    (replyHeader c r) rfl
  rw [hheader, hkind, htag', hstatus, hlength']
  refine ⟨Nat.mod_eq_of_lt (kindCode_lt _), Nat.mod_eq_of_lt htag, Nat.mod_eq_of_lt r.status.code_lt, rfl, ?_, ?_,
    ?_, ?_,
    rfl, rfl, rfl, rfl⟩
  · intro n w hw
    obtain ⟨hn, hget⟩ := List.getElem?_eq_some_iff.1 hw
    have h := writeReply_inside cu.replyRing cu.replyWrite (replyHeader c r :: r.payload) (n + 1)
      (by simpa using hn) hlen
    rw [hring, h, List.getElem_cons_succ, hget]
  · intro n hn hlt
    rw [hring]
    exact writeReply_outside _ _ _ n (by simpa using hn) hlt
  · show (cu.replyWrite.val + (Fin.ofNat 512 (r.payload.length + 1)).val) % 512 = _
    rw [Fin.val_ofNat]
    omega
  · show (cu.cmdRead.val + (Fin.ofNat 1024 c.length).val) % 1024 = _
    rw [Fin.val_ofNat]
    omega

/-! ## The ring reset and the reads of the control window (R148 to R150, R154, R155, R171) -/

theorem State.ringReset_eq (s : State) :
    s.ringReset = { s with cu := { s.cu with
      cmdWrite := 0, cmdRead := 0, replyWrite := 0, replyRead := 0, fault := none
      state := if s.cu.state = .loading then .loading else .idle } } := by
  unfold State.ringReset State.evaluateUnlessStopped
  by_cases h : s.cu.state = .loading
  · rw [if_pos h]
    exact if_pos (.inl rfl)
  · rw [if_neg h, if_neg (by simp)]
    unfold State.evaluate
    rw [CommandUnit.judge_of_empty _ rfl]
    rfl

/-- What the control window reads in its registers, from 0x600 on (R148, 12). -/
def State.register (s : State) : Nat → Word
  | 0 => BitVec.ofNat 32 s.cu.cmdWrite.val
  | 1 => if s.cu.state = .fault then 0xFFFF else BitVec.ofNat 32 s.cu.cmdRead.val
  | 2 => BitVec.ofNat 32 s.cu.replyWrite.val
  | 3 => BitVec.ofNat 32 s.cu.replyRead.val
  | 4 => BitVec.ofNat 32 s.cu.commandSpace
  | 5 => pack [⟨s.cu.state.code, 8, 3⟩]
  | 6 => s.device.summary
  | 7 => faultCode s.cu.fault
  | _ => 0

theorem State.windowRead_register (s : State) (a : BitVec 11) (n : Nat) (h : a.toNat = 1536 + n) :
    s.windowRead a = s.register n := by
  unfold State.windowRead
  rw [if_neg (by omega), if_neg (by omega), show a.toNat - 1536 = n by omega]
  rfl

theorem State.windowRead_command (s : State) (a : BitVec 11) (n : Fin 1024) (h : a.toNat = n.val) :
    s.windowRead a = tget s.cu.cmdRing n := by
  unfold State.windowRead
  rw [if_pos (by omega), h, show Fin.ofNat 1024 n.val = n from Fin.ofNat_val_eq_self n]

theorem State.windowRead_reply (s : State) (a : BitVec 11) (n : Fin 512) (h : a.toNat = 1024 + n.val) :
    s.windowRead a = tget s.cu.replyRing n := by
  unfold State.windowRead
  rw [if_neg (by omega), if_pos (by omega), show a.toNat - 1024 = n.val by omega,
    show Fin.ofNat 512 n.val = n from Fin.ofNat_val_eq_self n]

theorem State.register_of_ge (s : State) (n : Nat) (h : 8 ≤ n) : s.register n = 0 := by
  match n, h with
  | n + 8, _ => rfl

theorem CommandUnit.commandSpace_eq (cu : CommandUnit) :
    cu.commandSpace =
      if cu.state = .fault then 0 else (cu.cmdRead.val + 1024 - cu.cmdWrite.val + 1023) % 1024 := by
  unfold CommandUnit.commandSpace
  split
  · rfl
  · simp only [Fin.sub_def]
    show (1024 - 1 + (1024 - cu.cmdWrite.val + cu.cmdRead.val) % 1024) % 1024 = _
    omega

theorem CommandUnit.commandSpace_lt (cu : CommandUnit) : cu.commandSpace < 1024 := by
  unfold CommandUnit.commandSpace
  split <;> omega

theorem CuState.code_lt (st : CuState) : st.code < 8 := by cases st <;> decide

theorem pack_state_toNat (st : CuState) : (pack [⟨st.code, 8, 3⟩]).toNat = 256 * st.code := by
  have h := pack_toNat_cons ⟨st.code, 8, 3⟩ [] 0 st.code_lt rfl (by
    have := st.code_lt
    norm_num
    omega)
  rw [h]
  norm_num
  omega

theorem faultCode_toNat (w : FaultWord) :
    (faultCode (some w)).toNat = (if w.cause = .unknownKind then 1 else 2) + 4 * w.index.val + 65536 * w.kind.toNat +
      16777216 * w.length.toNat := by
  have hcause : w.cause.code = if w.cause = .unknownKind then 1 else 2 := by cases w.cause <;> rfl
  have hcauseLt : w.cause.code < 4 := by cases w.cause <;> decide
  have hkind := w.kind.isLt
  have hlength := w.length.isLt
  have hindex := w.index.isLt
  have h1 := pack_toNat_cons ⟨w.length.toNat, 24, 8⟩ [] 0 hlength rfl (by norm_num at *; omega)
  have h2 := pack_toNat_cons ⟨w.kind.toNat, 16, 8⟩ _ _ hkind h1 (by norm_num at *; omega)
  have h3 := pack_toNat_cons ⟨w.index.val, 2, 10⟩ _ _ hindex h2 (by norm_num at *; omega)
  have h4 := pack_toNat_cons ⟨w.cause.code, 0, 2⟩ _ _ hcauseLt h3 (by norm_num at *; omega)
  rw [← hcause]
  refine h4.trans ?_
  norm_num
  omega

theorem exec_controlWindowWrite (s : State) (a : BitVec 11) (value : Word) :
    exec (.controlWindowWrite a value) s = .next (s.windowWrite a value).notify := rfl

/-- Settles O8: the reset by `State.ringReset_eq`, the reads register by register. -/
theorem ringResetClearsTheRings : Obligations.RingResetClearsTheRings := by
  refine ⟨fun s => congrArg Host.Outcome.next s.ringReset_eq, fun s value hsummary hset hclear => ?_, fun s => ?_,
    fun s a => ?_⟩
  · have hwrite : s.windowWrite 0x605 value = s.ringReset := by
      show s.writeControl value = _
      unfold State.writeControl
      rw [hclear, hset]
      rfl
    rw [exec_controlWindowWrite, hwrite, State.notify_eq_self _ hsummary.ringReset]
    rfl
  · rw [s.windowRead_register 0x605 5 rfl]
    show bit (pack [⟨s.cu.state.code, 8, 3⟩]) 0 = false ∧ bit (pack [⟨s.cu.state.code, 8, 3⟩]) 1 = false
    cases s.cu.state <;> exact ⟨rfl, rfl⟩
  · have hindex : ∀ n : Fin 1024, (BitVec.ofNat 32 n.val).toNat = n.val := fun n => by
      rw [BitVec.toNat_ofNat]
      omega
    have hindex' : ∀ n : Fin 512, (BitVec.ofNat 32 n.val).toNat = n.val := fun n => by
      rw [BitVec.toNat_ofNat]
      omega
    refine ⟨fun n hn => s.windowRead_command a n hn, fun n hn => s.windowRead_reply a n hn, ?_, ?_, ?_, ?_, ?_, ?_,
      ?_, ?_,
      ?_, fun hge => ?_⟩
    · rintro rfl
      rw [s.windowRead_register 0x600 0 rfl]
      exact hindex _
    · rintro rfl
      rw [s.windowRead_register 0x601 1 rfl]
      show (if s.cu.state = .fault then (0xFFFF : Word) else _).toNat = _
      split
      · rfl
      · exact hindex _
    · rintro rfl
      rw [s.windowRead_register 0x602 2 rfl]
      exact hindex' _
    · rintro rfl
      rw [s.windowRead_register 0x603 3 rfl]
      exact hindex' _
    · rintro rfl
      rw [s.windowRead_register 0x604 4 rfl, ← CommandUnit.commandSpace_eq]
      have hlt := s.cu.commandSpace_lt
      show (BitVec.ofNat 32 s.cu.commandSpace).toNat = _
      rw [BitVec.toNat_ofNat]
      omega
    · rintro code rfl hcode
      rw [s.windowRead_register 0x605 5 rfl]
      refine (pack_state_toNat s.cu.state).trans ?_
      generalize s.cu.state = st at hcode
      cases st <;> simp at hcode <;> subst hcode <;> rfl
    · rintro rfl
      exact s.windowRead_register 0x606 6 rfl
    · rintro rfl hnone
      rw [s.windowRead_register 0x607 7 rfl]
      show faultCode s.cu.fault = 0
      rw [hnone]
      rfl
    · rintro w rfl hw
      rw [s.windowRead_register 0x607 7 rfl]
      show (faultCode s.cu.fault).toNat = _
      rw [hw]
      exact faultCode_toNat w
    · rw [s.windowRead_register a (a.toNat - 1536) (by omega)]
      exact s.register_of_ge _ (by omega)

end Sys2Proof.Machine

/-! Writes of the control window: the indices and the evaluation of the ring (R148, R151, R154), and the other words
(R156, R171). -/

namespace Sys2Proof.Machine

/-! ## The evaluation of the ring (R151) -/

theorem CommandUnit.judge_unknown (cu : CommandUnit) (hheld : cu.held ≠ 0)
    (hkind : kindOfCode (headerKind (cu.word 0)) = none) : cu.judge = .malformed (cu.faultWord .unknownKind) := by
  unfold CommandUnit.judge
  rw [if_neg hheld, hkind]

theorem CommandUnit.judge_badLength (cu : CommandUnit) (k : CmdKind) (hheld : cu.held ≠ 0)
    (hkind : kindOfCode (headerKind (cu.word 0)) = some k)
    (hlength : headerLength (cu.word 0) < minLength k ∨ maxLength k < headerLength (cu.word 0)) :
    cu.judge = .malformed (cu.faultWord .badLength) := by
  unfold CommandUnit.judge
  rw [if_neg hheld, hkind]
  exact if_pos hlength

/-- The evaluation of a header of a known kind and a length that the kind has. -/
theorem CommandUnit.judge_known (cu : CommandUnit) (k : CmdKind) (hheld : cu.held ≠ 0)
    (hkind : kindOfCode (headerKind (cu.word 0)) = some k) (hmin : minLength k ≤ headerLength (cu.word 0))
    (hmax : headerLength (cu.word 0) ≤ maxLength k) :
    cu.judge =
      if cu.held < headerLength (cu.word 0) then .needWords
      else if cu.replySpace < largestReply k then .needSpace
      else .due { kind := k, tag := headerTag (cu.word 0), length := headerLength (cu.word 0),
                  args := cu.args (headerLength (cu.word 0)) } := by
  unfold CommandUnit.judge
  rw [if_neg hheld, hkind]
  exact if_neg (by omega)

/-- An evaluation reads the rings alone, not the state of the Command Unit. -/
theorem CommandUnit.judge_settle (cu : CommandUnit) (e : Evaluation) : (cu.settle e).judge = cu.judge := by
  cases e <;> rfl

theorem arg_args (cu : CommandUnit) (length n : Nat) (hn : 1 ≤ n) (hlt : n < length) :
    arg (cu.args length) n = cu.word n := by
  unfold arg CommandUnit.args
  rw [List.getD_eq_getElem?_getD, List.getElem?_map, List.getElem?_range (by omega)]
  show cu.word (n - 1 + 1) = cu.word n
  rw [Nat.sub_add_cancel hn]

theorem State.dueCommand_of_judge (t : State) (cu : CommandUnit) (c : Command) (hcu : t.cu = cu.settle (.due c))
    (hjudge : cu.judge = .due c) : t.dueCommand = some c := by
  unfold State.dueCommand
  rw [hcu, CommandUnit.judge_settle, hjudge]
  rfl

/-- The evaluation of the ring under an index just written, with the summary word that follows. -/
theorem State.evaluated_notify (s t : State) (cu : CommandUnit) (hs : s.SummaryOk) (hstate : cu.state = s.cu.state)
    (ht : t = (State.evaluateUnlessStopped { s with cu := cu }).notify) :
    t = { s with cu := t.cu, device := t.device } ∧
    (s.cu.state = .loading ∨ s.cu.state = .fault → t.cu = cu ∧ t.device = s.device) ∧
    (s.cu.state ≠ .loading → s.cu.state ≠ .fault →
      t.cu = cu.settle cu.judge ∧
      ((∀ w, cu.judge ≠ .malformed w) → t.device = s.device) ∧
      (∀ w, cu.judge = .malformed w → Notified s t (s.device.events ||| 0x02))) := by
  have hquiet : ∀ u : CommandUnit, ({ s with cu := u } : State).notify = { s with cu := u } := fun u =>
    State.notify_eq_self _ (hs.congr rfl rfl rfl)
  by_cases hstopped : s.cu.state = .loading ∨ s.cu.state = .fault
  · have hkept : State.evaluateUnlessStopped { s with cu := cu } = { s with cu := cu } :=
      if_pos (by rw [← hstate] at hstopped; exact hstopped)
    rw [hkept, hquiet] at ht
    rw [ht]
    exact ⟨rfl, fun _ => ⟨rfl, rfl⟩, fun hl hf => absurd hstopped (not_or.2 ⟨hl, hf⟩)⟩
  · have hevaluated : State.evaluateUnlessStopped { s with cu := cu } =
        { s with cu := cu.settle cu.judge, device := cu.judge.raises s.device } :=
      if_neg (by rw [← hstate] at hstopped; exact hstopped)
    rw [hevaluated] at ht
    refine ⟨by rw [ht]; rfl, fun h => absurd h hstopped, fun _ _ => ⟨by rw [ht]; rfl, fun hno => ?_, fun w hw => ?_⟩⟩
    · have hraises : cu.judge.raises s.device = s.device := by
        cases hj : cu.judge with
        | malformed w => exact absurd hj (hno w)
        | _ => rfl
      rw [ht, hraises, hquiet]
    · rw [ht, hw]
      exact ⟨rfl, State.notify_summaryOk _⟩

/-- Settles O9: the write is an evaluation under the new index (`State.evaluated_notify`), judged header by header. -/
theorem indexWritesEvaluateTheRing : Obligations.IndexWritesEvaluateTheRing := by
  intro s value ins cu hs hins
  have hexec : exec ins s = .next (State.evaluateUnlessStopped { s with cu := cu }).notify := by
    rcases hins with ⟨rfl, rfl⟩ | ⟨rfl, rfl⟩ <;> rfl
  have hstate : cu.state = s.cu.state := by rcases hins with ⟨-, rfl⟩ | ⟨-, rfl⟩ <;> rfl
  obtain ⟨ht, hstopped, hgoing⟩ := s.evaluated_notify _ cu hs hstate rfl
  generalize (State.evaluateUnlessStopped { s with cu := cu }).notify = t at hexec ht hstopped hgoing
  refine ⟨t, hexec, ht, hstopped, fun hl hf => ?_⟩
  obtain ⟨hcu, hquiet, hfault⟩ := hgoing hl hf
  refine ⟨fun hheld => ?_, fun hheld hkind => ?_, fun k hheld hkind => ⟨fun hlength => ?_, fun hmin hmax => ?_⟩⟩
  · have hjudge := cu.judge_of_empty hheld
    rw [hjudge] at hcu hquiet
    exact ⟨hcu, hquiet fun _ h => by cases h⟩
  · have hjudge := cu.judge_unknown hheld hkind
    rw [hjudge] at hcu
    rw [hcu]
    exact ⟨rfl, rfl, rfl, hfault _ hjudge⟩
  · have hjudge := cu.judge_badLength k hheld hkind hlength
    rw [hjudge] at hcu
    rw [hcu]
    exact ⟨rfl, rfl, hfault _ hjudge⟩
  · have hjudge := cu.judge_known k hheld hkind hmin hmax
    have hdevice : t.device = s.device := by
      refine hquiet fun w h => ?_
      rw [hjudge] at h
      split at h
      · cases h
      · split at h <;> cases h
    refine ⟨hdevice, fun hwords => ?_, fun hwords hspace => ?_, fun hwords hspace => ?_⟩
    · rw [hjudge, if_pos hwords] at hcu
      exact hcu
    · rw [hjudge, if_neg (by omega), if_pos hspace] at hcu
      exact hcu
    · rw [if_neg (by omega), if_neg (by omega)] at hjudge
      rw [hjudge] at hcu
      exact ⟨hcu, _, t.dueCommand_of_judge cu _ hcu hjudge, rfl, rfl, rfl,
        fun n hn hlt => arg_args cu _ n hn hlt⟩

/-! ## The other words of the window (R156, R171) -/

theorem State.windowWrite_command (s : State) (a : BitVec 11) (value : Word) (n : Fin 1024) (h : a.toNat = n.val) :
    s.windowWrite a value = s.writeCommandWord n value := by
  unfold State.windowWrite
  rw [if_pos (by omega), h, show Fin.ofNat 1024 n.val = n from Fin.ofNat_val_eq_self n]

theorem State.windowWrite_reply (s : State) (a : BitVec 11) (value : Word) (n : Fin 512) (h : a.toNat = 1024 + n.val) :
    s.windowWrite a value = s.writeReplyWord n value := by
  unfold State.windowWrite
  rw [if_neg (by omega), if_pos (by omega), show a.toNat - 1024 = n.val by omega,
    show Fin.ofNat 512 n.val = n from Fin.ofNat_val_eq_self n]

theorem State.windowWrite_other (s : State) (a : BitVec 11) (value : Word) (h : 1536 ≤ a.toNat) (h0 : a ≠ 0x600)
    (h3 : a ≠ 0x603) (h5 : a ≠ 0x605) : s.windowWrite a value = s := by
  unfold State.windowWrite
  rw [if_neg (by omega), if_neg (by omega), if_neg h0, if_neg h3, if_neg h5]

theorem State.windowWrite_control (s : State) (value : Word) : s.windowWrite 0x605 value = s.writeControl value := rfl

theorem State.controlResetWrite_notify (s : State) (hs : s.SummaryOk) :
    s.controlResetWrite.notify = s.controlResetWrite := by
  refine State.notify_eq_self _ ?_
  unfold State.controlResetWrite
  split
  · exact hs
  · exact s.controlReset_summaryOk

/-- Settles O10: the word written by its place in the window. -/
theorem windowWritesReplaceRingWords : Obligations.WindowWritesReplaceRingWords := by
  intro s a value hs
  have hquiet : ∀ u : CommandUnit, ({ s with cu := u } : State).notify = { s with cu := u } := fun u =>
    State.notify_eq_self _ (hs.congr rfl rfl rfl)
  refine ⟨fun n hn => ?_, fun n hn => ?_, fun h h0 h3 h5 => ?_, ?_, ?_, ?_, ?_⟩
  · rw [exec_controlWindowWrite, s.windowWrite_command a value n hn]
    exact congrArg Host.Outcome.next (hquiet _)
  · rw [exec_controlWindowWrite, s.windowWrite_reply a value n hn]
    exact congrArg Host.Outcome.next (hquiet _)
  · rw [exec_controlWindowWrite, s.windowWrite_other a value h h0 h3 h5, State.notify_eq_self s hs]
  · rintro rfl h0 h1
    rw [exec_controlWindowWrite, s.windowWrite_control]
    unfold State.writeControl
    rw [h0, h1, if_neg Bool.false_ne_true, if_neg Bool.false_ne_true, State.notify_eq_self s hs]
  · rintro rfl h1
    have hreset : exec (.controlWindowWrite 0x605 value) s = .next s.controlResetWrite := by
      rw [exec_controlWindowWrite, s.windowWrite_control]
      unfold State.writeControl
      rw [if_pos h1, s.controlResetWrite_notify hs]
    refine ⟨hreset, fun hl => ?_, fun hl => ⟨_, hreset, ?_, ?_⟩⟩
    · rw [hreset]
      exact congrArg Host.Outcome.next (if_pos hl)
    · rw [show s.controlResetWrite = s.controlReset from if_neg hl]
      rfl
    · rw [show s.controlResetWrite = s.controlReset from if_neg hl]
      rfl
  · rintro rfl
    rfl
  · rintro rfl
    rfl

end Sys2Proof.Machine

/-! The step (R1), the resets (R39, R55, R156, R165, R168) and the pulses of the reference (R5 to R7). -/

namespace Sys2Proof.Machine

/-! ## The step -/

theorem State.loadPart_of_rest (s : State) (hcomplete : s.loader.stage ≠ .complete)
    (happlying : ∀ left, s.loader.stage ≠ .applying left)
    (hopening : ∀ n left, s.loader.stage ≠ .opening (n :: left)) : s.loadPart = s := by
  unfold State.loadPart
  split
  · next h => exact absurd h hcomplete
  · next h => exact absurd h (happlying _)
  · next h => exact absurd h (happlying _)
  · next h => exact absurd h (hopening _ _)
  all_goals rfl

/-- Settles O1: `step` is a match on the queue. -/
theorem stepTakesFrontCommand : Obligations.StepTakesFrontCommand := by
  refine fun s => ⟨fun c rest hpending => ?_, fun hpending hcomplete happlying hopening => ?_⟩
  · unfold step
    rw [hpending]
  · unfold step
    rw [hpending]
    exact congrArg Host.Outcome.next (s.loadPart_of_rest hcomplete happlying hopening)

/-! ## The state right after power-on reset -/

theorem State.reset_route (i : RouteId) : State.reset.route i = Route.free 0 := tget_replicate ..
theorem State.reset_feed (f : FeedId) : State.reset.feed f = Feed.reset := tget_replicate ..
theorem State.reset_feedPort (f : FeedId) : State.reset.feedPort f = FeedPort.reset := tget_replicate ..
theorem State.reset_slot (k : SlotId) : State.reset.slot k = Slot.reset := tget_replicate ..

/-- Settles O2: each invariant at the reset values of its blocks. -/
theorem resetMeetsInvariants : Obligations.ResetMeetsInvariants := by
  refine ⟨⟨List.Pairwise.nil, by simp [State.reset]⟩, fun i => ?_, ?_, fun f => ?_, fun t => ?_, ?_, ?_, ?_, ?_, ?_, ?_⟩
  · rw [State.reset_route]
    exact Route.free_windowOk 0
  · exact .of_vacant (fun i => by rw [State.reset_route]; rfl) (fun f => by rw [State.reset_feed]; rfl)
  · rw [State.reset_feed]
    exact Feed.reset_recordOk
  · cases t
    · exact Timeline.reset_clockOk .h50i rfl
    · exact Timeline.reset_clockOk .h5994i rfl
  · exact .of_reset rfl rfl fun i => ⟨0, State.reset_route i⟩
  · exact State.ListsOk.powerOn State.reset false
  · exact .of_none rfl rfl (by show MonitorContent.black ≠ .picture; decide)
  · exact State.reset.powerOn_summaryOk false
  · exact ⟨by simp [State.reset, CommandUnit.reset], by simp [State.reset, CommandUnit.reset, Loader.start]⟩
  · exact (State.slotsLaw_none _).1 (.of_reset rfl rfl rfl rfl fun i => ⟨0, State.reset_route i⟩)

theorem State.reset_port (p : PortId) :
    State.reset.port p = if p.val < 4 then Port.reset .a .h50i else Port.reset .b .h5994i := by
  fin_cases p <;> rfl

/-- Settles O3: the reset values of each block. -/
theorem powerOnValues : Obligations.PowerOnValues := by
  refine ⟨⟨rfl, rfl, rfl, rfl, rfl, rfl⟩, ⟨rfl, rfl, fun t => ?_⟩, rfl, fun f => ?_, fun i => State.reset_slot i,
    fun i => ?_,
    fun i => ?_, fun p => ?_, ⟨rfl, rfl, rfl, rfl, rfl, rfl, rfl⟩, ⟨rfl, rfl, rfl, rfl, rfl, rfl, rfl⟩,
    ⟨rfl, rfl, rfl, rfl, rfl, rfl, rfl, rfl⟩, rfl, fun n => tget_replicate ..⟩
  · cases t <;> exact ⟨rfl, rfl, rfl, rfl, rfl, rfl⟩
  · rw [State.reset_feed, State.reset_feedPort]
    exact ⟨rfl, rfl⟩
  · rw [State.reset_route]
    exact ⟨rfl, rfl, rfl⟩
  · fin_cases i <;> rfl
  · rw [State.reset_port]
    split <;> exact ⟨rfl, rfl, rfl, rfl, rfl⟩

/-! ## The resets (R55, R156, R165) -/

theorem exec_powerOnReset (s : State) (pin : Bool) : exec (.powerOnReset pin) s = .next (s.powerOn pin) := rfl
/-- Settles O7: the fields of `State.powerOn` and `State.controlReset`. -/
theorem resetsRestoreTheBlocks : Obligations.ResetsRestoreTheBlocks := by
  refine ⟨fun s pin => ⟨_, exec_powerOnReset s pin, rfl⟩, fun s hl => congrArg Host.Outcome.next (if_pos hl),
    fun s hl => ?_⟩
  have hreset : s.controlResetWrite = s.controlReset := if_neg hl
  refine ⟨s.controlReset, congrArg Host.Outcome.next hreset, rfl, rfl, fun p => ?_, fun i => ?_⟩
  · have hport : s.controlReset.port p = (s.port p).controlReset := tget_map ..
    rw [hport, State.reset_port]
    split <;> rfl
  · have hroute : s.controlReset.route i = Route.free (s.route i).resetGeneration := tget_map ..
    rw [hroute, State.reset_route]
    rfl

/-! ## The reference (R5 to R7) -/

theorem Reference.pulse_kept (r : Reference) (tick : Tick) :
    (r.pulse tick).family = r.family ∧ (r.pulse tick).mode = r.mode ∧ (r.pulse tick).lastPulse = some tick := by
  unfold Reference.pulse Reference.judge
  split
  · exact ⟨rfl, rfl, rfl⟩
  · split <;> exact ⟨rfl, rfl, rfl⟩

theorem goodInterval_iff (family : RefFamily) (i : Tick) :
    goodInterval family i = true ↔
      family.period - family.period / 100 ≤ i.toNat ∧ i.toNat ≤ family.period + family.period / 100 := by
  unfold goodInterval
  rw [Bool.and_eq_true, decide_eq_true_iff, decide_eq_true_iff]

/-- The source after a good pulse (R6, R7). -/
theorem Reference.sourceAfterGood_eq (r : Reference) :
    r.sourceAfterGood =
      if min 16 (r.goodRun + 1) = 16 ∧
          ((r.source = .internal ∧ r.mode ≠ .manualInternal) ∨
           (r.source = .holdover ∧ r.mode = .manualExternal)) then .locked
      else r.source := by
  unfold Reference.sourceAfterGood
  show (if r.source ≠ .locked ∧ min 16 (r.goodRun + 1) = 16 then _ else _) = _
  by_cases hrun : min 16 (r.goodRun + 1) = 16
  · simp only [hrun, true_and, and_true]
    cases r.mode <;> cases r.source <;> rfl
  · rw [if_neg fun h => hrun h.2, if_neg fun h => hrun h.1]

theorem sourceAfterAbsence_eq (mode : RefMode) (source : TickSource) :
    sourceAfterAbsence mode source =
      if source = .locked ∧ mode = .auto then .internal
      else if source = .locked ∧ mode = .manualExternal then .holdover
      else source := by
  cases mode <;> cases source <;> rfl

theorem State.setReference_notified (s : State) (r : Reference) :
    Notified s (s.setReference r).notify
      (if r.source = s.reference.source then s.device.events else s.device.events ||| 0x01) := by
  refine ⟨?_, State.notify_summaryOk _⟩
  unfold State.notify State.setReference
  dsimp only
  split <;> rfl

theorem exec_referencePulse (s : State) (tick : Tick) :
    exec (.referencePulse tick) s = .next (s.setReference (s.reference.pulse tick)).notify := rfl

/-- Settles O28: a pulse by whether its interval is good, an absence by `sourceAfterAbsence_eq`. -/
theorem referencePulsesAreJudged : Obligations.ReferencePulsesAreJudged := by
  refine ⟨fun s tick p hp => ?_, fun s hpulse => ?_, rfl, rfl⟩
  · obtain ⟨hfamily, hmode, hlast⟩ := s.reference.pulse_kept tick
    refine ⟨_, exec_referencePulse s tick, rfl, hfamily, hmode, hlast, s.setReference_notified _, fun hnone => ?_,
      fun last hsome => ⟨fun hlow hhigh => ?_, fun hbad => ?_⟩⟩
    · have hjudge : s.reference.judge tick = s.reference := by
        unfold Reference.judge
        rw [hnone]
      show (s.reference.judge tick).goodRun = _ ∧ (s.reference.judge tick).badPulses = _ ∧
        (s.reference.judge tick).source = _
      rw [hjudge]
      exact ⟨rfl, rfl, rfl⟩
    · have hjudge : s.reference.judge tick = s.reference.goodPulse := by
        unfold Reference.judge
        rw [hsome]
        exact if_pos ((goodInterval_iff _ _).2 ⟨hp ▸ hlow, hp ▸ hhigh⟩)
      show (s.reference.judge tick).goodRun = _ ∧ (s.reference.judge tick).badPulses = _ ∧
        (s.reference.judge tick).source = _
      rw [hjudge]
      exact ⟨rfl, rfl, s.reference.sourceAfterGood_eq⟩
    · have hjudge : s.reference.judge tick = s.reference.badPulse := by
        unfold Reference.judge
        rw [hsome]
        refine if_neg fun h => ?_
        have hgood := (goodInterval_iff _ _).1 h
        rw [← hp] at hgood
        omega
      show (s.reference.judge tick).goodRun = _ ∧ (s.reference.judge tick).badPulses = _ ∧
        (s.reference.judge tick).source = _
      rw [hjudge]
      exact ⟨rfl, rfl, rfl⟩
  · have hexec : exec .referenceAbsence s = .next (s.setReference s.reference.absent).notify :=
      congrArg Host.Outcome.next (if_pos hpulse)
    refine ⟨_, hexec, ?_, s.setReference_notified _⟩
    rw [← sourceAfterAbsence_eq]
    rfl

end Sys2Proof.Machine

/-! The next line of an output (R104, R106, R112, R113, R115, R143, R146). -/

namespace Sys2Proof.Machine

/-! ## The legal range (R112) -/

theorem clampSample_ne_iff (lo hi x : Nat) (h : lo ≤ hi) : clampSample lo hi x ≠ x ↔ x < lo ∨ hi < x := by
  unfold clampSample
  omega

theorem pelClamped_eq (luma chroma : Nat) :
    pelClamped luma chroma =
      (decide (luma < 64) || decide (940 < luma) || decide (chroma < 64) || decide (960 < chroma)) := by
  rw [Bool.eq_iff_iff]
  unfold pelClamped legalLuma legalChroma
  simp only [Bool.or_eq_true, bne_iff_ne, clampSample_ne_iff 64 940 luma (by omega),
    clampSample_ne_iff 64 960 chroma (by omega), decide_eq_true_eq, or_assoc]

theorem lineClamped_eq (line : List (Nat × Nat)) :
    lineClamped line = line.any (fun x =>
      decide (x.1 < 64) || decide (940 < x.1) || decide (x.2 < 64) || decide (960 < x.2)) := by
  unfold lineClamped
  simp only [pelClamped_eq]

theorem legalLine_eq (line : List (Nat × Nat)) :
    legalLine line = line.map (fun x =>
      { luma := BitVec.ofNat 10 (max 64 (min 940 x.1)), chroma := BitVec.ofNat 10 (max 64 (min 960 x.2)) }) := rfl

/-! ## The line of a port -/

theorem State.pictureOnPort_eq_none (s : State) (p : PortId)
    (h : ∀ i pic, (s.route i).state ≠ .free → (s.route i).port = p → (s.route i).picture = some pic →
      pic.standard.lines ≤ pic.nextLine) : s.pictureOnPort p = none := by
  unfold State.pictureOnPort
  rw [List.find?_eq_none]
  intro i _ hi
  simp only [Bool.and_eq_true, bne_iff_ne, beq_iff_eq, Option.any_eq_true] at hi
  obtain ⟨⟨hfree, hport⟩, pic, hpic, hunfinished⟩ := hi
  have hle := h i pic hfree hport hpic
  unfold Picture.unfinished at hunfinished
  rw [decide_eq_true_iff] at hunfinished
  omega

theorem State.pictureOnPort_eq_some (s : State) (p : PortId) (i : RouteId) (pic : Picture)
    (hfree : (s.route i).state ≠ .free) (hport : (s.route i).port = p) (hpic : (s.route i).picture = some pic)
    (hline : pic.nextLine < pic.standard.lines)
    (hlow : ∀ j, j < i → (s.route j).state ≠ .free → (s.route j).port = p →
      ∀ q, (s.route j).picture = some q → q.standard.lines ≤ q.nextLine) : s.pictureOnPort p = some i := by
  refine List.find?_finRange_eq_some _ i ?_ fun j hj => ?_
  · simp only [Bool.and_eq_true, bne_iff_ne, beq_iff_eq, Option.any_eq_true]
    exact ⟨⟨hfree, hport⟩, pic, hpic, decide_eq_true hline⟩
  · rw [Bool.eq_false_iff]
    intro hon
    simp only [Bool.and_eq_true, bne_iff_ne, beq_iff_eq, Option.any_eq_true] at hon
    obtain ⟨⟨hfree', hport'⟩, q, hq, hunfinished⟩ := hon
    have hle := hlow j hj hfree' hport' q hq
    unfold Picture.unfinished at hunfinished
    rw [decide_eq_true_iff] at hunfinished
    omega

theorem State.portLine_idle (s : State) (p : PortId) (h : s.pictureOnPort p = none) :
    s.portLine p = s.sendLine p (blackLine (s.port p).standard) := by
  unfold State.portLine
  rw [h]

theorem State.portLine_picture (s : State) (p : PortId) (i : RouteId) (pic : Picture) (h : s.pictureOnPort p = some i)
    (hpic : (s.route i).picture = some pic) :
    s.portLine p =
      (s.setRoute i ((s.route i).produce pic (lineClamped (blendLine s.dram s.slots pic pic.nextLine)))).sendLine p
        (if (s.port p).content = .black then blackLine (s.port p).standard
         else legalLine (blendLine s.dram s.slots pic pic.nextLine)) := by
  unfold State.portLine
  rw [h]
  dsimp only
  rw [hpic]

/-- A port's line is sent over the records as the line leaves them. -/
theorem State.portLine_sends (s : State) (p : PortId) :
    ∃ (routes : RouteTable) (line : List Pel), s.portLine p =
      ({ s with routes := routes } : State).sendLine p line := by
  unfold State.portLine
  split
  · exact ⟨s.routes, _, rfl⟩
  · split
    · exact ⟨s.routes, _, rfl⟩
    · exact ⟨_, _, rfl⟩

/-- What a record is after a line of its picture (R104, R106). -/
theorem Route.produce_eq (r : Route) (pic : Picture) (clamped : Bool) :
    r.produce pic clamped =
      if clamped = true ∧ pic.clipped = false ∧ pic.kind = .live ∧ r.state.live = true then
        { r with
          picture := some { pic with nextLine := pic.nextLine + 1, clipped := pic.clipped || clamped }
          counters := { r.counters with clips := min 65535 (r.counters.clips + 1) }
          events := r.events ||| 0x40 }
      else { r with picture := some { pic with nextLine := pic.nextLine + 1, clipped := pic.clipped || clamped } } := by
  unfold Route.produce Route.countClip
  simp only [Bool.and_eq_true, Bool.not_eq_true', beq_iff_eq, and_assoc]
  split <;> rfl

theorem exec_outputLine (s : State) (o : OutputId) : exec (.outputLine o) s = .next (s.outputLine o).notify := rfl

/-- The line of a port, whatever it is: what else the part keeps. -/
theorem State.sendLine_frame (s t : State) (p : PortId) (routes : RouteTable) (line : List Pel)
    (ht : t = (({ s with routes := routes } : State).sendLine p line).notify) :
    t = { s with routes := t.routes, ports := t.ports, monitor := t.monitor, device := t.device } ∧
      Notified s t s.device.events ∧ (∀ q, t.port q = if p = q then { s.port p with lineOut := line } else s.port q) ∧
      t.monitor = (if s.monitor.content = .copy ∧ s.monitor.view = .port p then
        { s.monitor with lineOut := line } else s.monitor) ∧
      t.routes = routes := by
  subst ht
  exact ⟨rfl, State.notify_notified s _ rfl, fun q => tget_tset _ _ _ _, rfl, rfl⟩

/-! ## The line of the monitor -/

theorem State.monitorLine_copy (s : State) (h : s.monitor.content = .copy) : s.monitorLine = s := by
  unfold State.monitorLine
  rw [h]

theorem State.monitorLine_black (s : State) (h : s.monitor.content = .black ∨ (s.monitor.content = .picture ∧
    ∀ pic, s.monitor.picture = some pic → pic.standard.lines ≤ pic.nextLine)) :
    s.monitorLine = { s with monitor := s.monitor.sendBlack } := by
  unfold State.monitorLine
  rcases h with h | ⟨h, hdone⟩
  · rw [h]
  · rw [h]
    dsimp only
    have hnone : s.monitor.picture.filter Picture.unfinished = none := by
      rw [Option.filter_eq_none_iff]
      intro pic hpic hunfinished
      have hle := hdone pic hpic
      unfold Picture.unfinished at hunfinished
      rw [decide_eq_true_iff] at hunfinished
      omega
    rw [hnone]

theorem State.monitorLine_picture (s : State) (pic : Picture) (h : s.monitor.content = .picture)
    (hpic : s.monitor.picture = some pic) (hline : pic.nextLine < pic.standard.lines) :
    s.monitorLine = { s with monitor := s.monitor.produce pic (blendLine s.dram s.slots pic pic.nextLine) } := by
  have hsome : (some pic).filter Picture.unfinished = some pic := Option.filter_some_pos (decide_eq_true hline)
  unfold State.monitorLine
  rw [h]
  dsimp only
  rw [hpic, hsome]

theorem State.monitorLine_only (s : State) : s.monitorLine = { s with monitor := s.monitorLine.monitor } := by
  unfold State.monitorLine
  repeat' split
  all_goals rfl

/-- Settles O37: a port's line by `State.portLine_idle` and `State.portLine_picture`, the monitor's by its content. -/
theorem outputLineProducesALine : Obligations.OutputLineProducesALine := by
  refine ⟨fun s p black hblack => ?_, fun s => ?_⟩
  · have hblack' : black = blackLine (s.port p).standard := hblack
    obtain ⟨routes, line, hsends⟩ := s.portLine_sends p
    obtain ⟨ht, hnotified, hport, hmonitor, hroutes⟩ :=
      s.sendLine_frame (s.portLine p).notify p routes line (by rw [hsends])
    have hself : (s.portLine p).notify.port p = { s.port p with lineOut := line } := (hport p).trans (if_pos rfl)
    refine ⟨_, exec_outputLine s (.port p), ht, hnotified, fun q hq => (hport q).trans (if_neg (Ne.symm hq)), ?_, ?_,
      fun hidle => ?_, fun i pic samples clamped hfree hon hpic hline hlow hsamples hclamped => ?_⟩
    · show (s.portLine p).notify.port p = { s.port p with lineOut := ((s.portLine p).notify.port p).lineOut }
      rw [hself]
    · show (s.portLine p).notify.monitor = if _ then
        { s.monitor with lineOut := ((s.portLine p).notify.port p).lineOut } else s.monitor
      rw [hself]
      exact hmonitor
    · have hblackLine := s.portLine_idle p (s.pictureOnPort_eq_none p hidle)
      obtain ⟨-, -, hport', -, hroutes'⟩ := s.sendLine_frame (s.portLine p).notify p s.routes _ (by rw [hblackLine])
      refine ⟨hroutes', ?_⟩
      rw [hblack']
      exact congrArg Port.lineOut ((hport' p).trans (if_pos rfl))
    · have hpicture := s.portLine_picture p i pic (s.pictureOnPort_eq_some p i pic hfree hon hpic hline hlow) hpic
      have hsamples' : blendLine s.dram s.slots pic pic.nextLine = samples := hsamples.symm
      rw [hsamples', lineClamped_eq, ← hclamped] at hpicture
      obtain ⟨-, -, hport', -, hroutes'⟩ := s.sendLine_frame (s.portLine p).notify p _ _ (by rw [hpicture]; rfl)
      have hroute : ∀ j, (s.portLine p).notify.route j =
          if i = j then (s.route i).produce pic clamped else s.route j := fun j =>
        (congrArg (fun v => tget v j) hroutes').trans (tget_tset _ _ _ _)
      have hrecord := (hroute i).trans (if_pos rfl)
      refine ⟨fun j hj => (hroute j).trans (if_neg (Ne.symm hj)), ?_, ?_, ?_⟩
      · rw [hblack', ← legalLine_eq]
        exact congrArg Port.lineOut ((hport' p).trans (if_pos rfl))
      · exact congrArg Route.picture hrecord
      · show (s.portLine p).notify.route i = if _ then
          { s.route i with
            picture := ((s.portLine p).notify.route i).picture
            counters := { (s.route i).counters with clips := min 65535 ((s.route i).counters.clips + 1) }
            events := (s.route i).events ||| 0x40 }
          else { s.route i with picture := ((s.portLine p).notify.route i).picture }
        rw [hrecord, Route.produce_picture]
        exact Route.produce_eq _ _ _
  · have honly := s.monitorLine_only
    refine ⟨_, exec_outputLine s .monitor, ?_, State.notify_notified s _ ?_, fun hcopy => ?_, fun hblack => ?_,
      fun pic samples hcontent hpic hline hsamples => ?_⟩
    · show s.monitorLine.notify =
        { s with monitor := s.monitorLine.notify.monitor, device := s.monitorLine.notify.device }
      generalize s.monitorLine = t at honly
      rw [honly]
      rfl
    · show s.monitorLine.device = s.device
      rw [honly]
    · show s.monitorLine.monitor = s.monitor
      rw [s.monitorLine_copy hcopy]
    · show s.monitorLine.monitor = _
      rw [s.monitorLine_black hblack]
      rfl
    · have hsamples' : blendLine s.dram s.slots pic pic.nextLine = samples := hsamples.symm
      have hproduced := congrArg State.monitor (s.monitorLine_picture pic hcontent hpic hline)
      rw [hsamples'] at hproduced
      rw [← lineClamped_eq]
      exact hproduced

end Sys2Proof.Machine

/-! The reading of the start-up image (R163, R164) and the load of an ignored one (R170). -/

namespace Sys2Proof.Machine

/-! ## Words and transactions (R163) -/

theorem absentWord_iff (n : Nat) : absentWord n = true ↔ n = 0 ∨ n = 0xFFFF := by
  unfold absentWord
  rw [Bool.or_eq_true, beq_iff_eq, beq_iff_eq]

/-- The stage entered for the modules left is that of the first one present. -/
theorem stageFor_eq_firstPresent (header : List Word16) (modules : List ModuleId) :
    stageFor header modules = firstPresent header modules := by
  induction modules with
  | nil => rfl
  | cons m ms ih =>
    unfold stageFor firstPresent
    by_cases h : absentWord (flashWord header m.pointerWord) = true
    · rw [if_pos h, ih, List.find?_cons_of_neg]
      · rfl
      · rw [absentWord_iff] at h
        rcases h with h | h <;> simp [h]
    · rw [if_neg h, List.find?_cons_of_pos]
      rw [absentWord_iff, not_or] at h
      simp [h.1, h.2]

theorem transaction_eq_none (words : Option (List Word16)) (n : Nat)
    (h : words = none ∨ ∃ ws, words = some ws ∧ ws.length < n) : transaction words n = none := by
  rcases h with rfl | ⟨ws, rfl, hlt⟩
  · rfl
  · exact if_neg (by omega)

theorem transaction_eq_some (ws : List Word16) (n : Nat) (h : n ≤ ws.length) :
    transaction (some ws) n = some (ws.take n) := if_pos h

theorem flashWord_of_getElem (ws : List Word16) (n : Nat) (w : Word16) (h : ws[n]? = some w) :
    flashWord ws n = w.toNat := by
  unfold flashWord
  rw [List.getD_eq_getElem?_getD, h]
  rfl

theorem word16_toNat_eq (w : Word16) (n : Nat) (h : n < 65536) : w.toNat = n ↔ w = BitVec.ofNat 16 n := by
  constructor
  · intro hw
    apply BitVec.eq_of_toNat_eq
    rw [hw, BitVec.toNat_ofNat]
    omega
  · rintro rfl
    rw [BitVec.toNat_ofNat]
    omega

theorem absentWord_toNat (w : Word16) : absentWord w.toNat = true ↔ w = 0 ∨ w = 0xFFFF := by
  rw [absentWord_iff, word16_toNat_eq w 0 (by omega), word16_toNat_eq w 0xFFFF (by omega)]
  rfl

theorem flashWord_signature (ws : List Word16) (h : 16 ≤ ws.length) :
    flashWord (ws.take 16) 0 = 0xD5C3 ↔ ws[0]? = some 0xD5C3 := by
  have hget : (ws.take 16)[0]? = some ws[0] := by simp
  rw [flashWord_of_getElem _ _ _ hget, word16_toNat_eq _ _ (by omega), List.getElem?_eq_getElem (by omega),
    Option.some.injEq]
  rfl

/-! ## The reading (R163) -/

theorem Loader.readHeader_some (l : Loader) (ws : List Word16) (h : 16 ≤ ws.length) :
    l.readHeader (some ws) =
      { l with
        header := ws.take 16
        stage := if ws[0]? = some 0xD5C3 then firstPresent (ws.take 16) [.house, .track, .profile, .feed, .preset]
          else .stopped .signature } := by
  unfold Loader.readHeader
  rw [transaction_eq_some ws 16 h]
  dsimp only
  by_cases hsig : ws[0]? = some 0xD5C3
  · rw [if_pos ((flashWord_signature ws h).2 hsig), if_pos hsig, stageFor_eq_firstPresent]
  · rw [if_neg fun hw => hsig ((flashWord_signature ws h).1 hw), if_neg hsig]

theorem Loader.readLength_some (l : Loader) (m : ModuleId) (p : Nat) (ws : List Word16) (w : Word16)
    (h : ws[0]? = some w) :
    l.readLength m p (some ws) =
      { l with
        stage := if w = 0 ∨ w = 0xFFFF then firstPresent l.header m.later
          else if 65535 < p + w.toNat then .stopped .read
          else .body m w.toNat } := by
  have hlength : 1 ≤ ws.length := by
    obtain ⟨hlt, -⟩ := List.getElem?_eq_some_iff.1 h
    omega
  have hword : flashWord (ws.take 1) 0 = w.toNat := flashWord_of_getElem _ _ _ (by
    rw [List.getElem?_take_of_lt (by omega), h])
  unfold Loader.readLength
  rw [transaction_eq_some ws 1 hlength]
  dsimp only
  rw [hword]
  by_cases habsent : w = 0 ∨ w = 0xFFFF
  · rw [if_pos ((absentWord_toNat w).2 habsent), if_pos habsent, stageFor_eq_firstPresent]
  · rw [if_neg fun hw => habsent ((absentWord_toNat w).1 hw), if_neg habsent]
    split <;> rfl

theorem Loader.readBody_some (l : Loader) (m : ModuleId) (n : Nat) (ws : List Word16) (h : n ≤ ws.length) :
    l.readBody m n (some ws) =
      { l with bodies := l.bodies ++ [(m, ws.take n)], stage := firstPresent l.header m.later } := by
  unfold Loader.readBody
  rw [transaction_eq_some ws n h]
  dsimp only
  rw [stageFor_eq_firstPresent]

/-- A failed read stops the reading, whatever it asks for. -/
theorem Loader.read_failed (l : Loader) (words : Option (List Word16)) (n : Nat)
    (hstage : (l.stage = .header ∧ n = 16) ∨ (∃ m p, l.stage = .length m p ∧ n = 1) ∨ ∃ m, l.stage = .body m n)
    (h : transaction words n = none) : l.read words = { l with stage := .stopped .read } := by
  unfold Loader.read
  rcases hstage with ⟨hs, rfl⟩ | ⟨m, p, hs, rfl⟩ | ⟨m, hs⟩ <;> rw [hs]
  · show l.readHeader words = _
    unfold Loader.readHeader
    rw [h]
  · show l.readLength m p words = _
    unfold Loader.readLength
    rw [h]
  · show l.readBody m n words = _
    unfold Loader.readBody
    rw [h]

theorem exec_flashRead (s : State) (words : Option (List Word16)) :
    exec (.flashRead words) s = .next { s with loader := s.loader.read words } := rfl

/-- Settles O47: the transaction by the stage it answers. -/
theorem flashReadReadsTheImage : Obligations.FlashReadReadsTheImage := by
  refine fun s words l => ⟨fun n hstage => ⟨fun hfailed => ?_, fun ws hwords hlength hheader hlen hbody => ?_⟩,
    fun hrest => ?_⟩
  · rw [exec_flashRead, s.loader.read_failed words n hstage (transaction_eq_none words n hfailed)]
  · subst hwords
    rw [exec_flashRead]
    have hread : s.loader.read (some ws) = l := by
      unfold Loader.read
      rcases hstage with ⟨hs, rfl⟩ | ⟨m, p, hs, rfl⟩ | ⟨m, hs⟩
      · rw [hs, hheader hs]
        exact Loader.readHeader_some _ ws hlength
      · have hfirst : ws[0]? = some ws[0] := List.getElem?_eq_getElem (by omega)
        rw [hlen m p _ hs hfirst, hs]
        exact Loader.readLength_some _ m p ws _ hfirst
      · rw [hbody m hs, hs]
        exact Loader.readBody_some _ m n ws hlength
    rw [hread]
  · have hkept : s.loader.read words = s.loader := by
      unfold Loader.read
      rcases hrest with h | h | ⟨left, h⟩ | ⟨left, h⟩ | ⟨cause, h⟩ <;> rw [h]
    rw [exec_flashRead, hkept]

/-! ## The load of an ignored image (R170) -/

theorem exec_loadEnd_idle (s : State) (tick : Tick) (h : s.loader.readingDone = false) :
    exec (.loadEnd tick) s = .next s :=
  congrArg Host.Outcome.next (if_neg (by rw [h]; exact Bool.false_ne_true))

theorem exec_loadEnd_done (s : State) (tick : Tick) (h : s.loader.readingDone = true) :
    exec (.loadEnd tick) s = .next (s.endLoad tick).notify :=
  congrArg Host.Outcome.next (if_pos h)

/-- The test of the sum on an image that fails it leaves the reading stopped (R164). -/
theorem State.restOfLoad_stopped (s : State) (cause : LoadCause)
    (h : s.loader.stage = .stopped cause ∨
      (s.loader.stage = .complete ∧ cause = .checksum ∧ s.loader.sum ≠ 0x6D2B)) :
    s.restOfLoad = s ∧ s.loader.stage = .stopped cause ∨ s.restOfLoad = s.partDone (.stopped cause) := by
  unfold State.restOfLoad
  rcases h with h | ⟨h, rfl, hsum⟩
  · rw [h, if_neg (by simp)]
    refine .inl ⟨?_, rfl⟩
    unfold State.restOfImage
    rw [h]
  · rw [if_pos h]
    refine .inr ?_
    unfold State.testImage
    rw [if_neg hsum]
    rfl

theorem Timeline.start_eq (tl : Timeline) (tick : Tick) :
    tl.start tick =
      { state := .running, standard := tl.standard, nextBoundary := some (tick + BitVec.ofNat 32 tl.standard.nominal)
        counter := 0, nextParity := if tl.standard.interlaced then .top else .frame
        nextTimecode := ⟨0, 0, 0, 0, tl.standard.drop, false⟩, currentTimecode := none } := rfl

/-- An evaluation of the ring, with the summary word that follows (R151, R161). -/
theorem State.evaluate_notified (s t : State) (ht : t = s.evaluate.notify) :
    t = { s with cu := s.cu.settle s.cu.judge, device := t.device } ∧
      Notified s t (s.cu.judge.raises s.device).events := by
  unfold State.evaluate at ht
  generalize s.cu.judge = e at ht ⊢
  subst ht
  cases e <;> exact ⟨rfl, rfl, State.notify_summaryOk _⟩

/-- The end of a load in its parts: the load concluded, the timelines of a power-on load started, the CU evaluated. -/
def State.concluded (s : State) (tick : Tick) : State :=
  if s.loader.powerOn then s.restOfLoad.concludeLoad.startTimelines tick else s.restOfLoad.concludeLoad

theorem State.endLoad_eq (s : State) (tick : Tick) :
    s.endLoad tick = State.evaluate { s.concluded tick with cu := { (s.concluded tick).cu with state := .idle } } := rfl

/-- What a load's end leaves, from what it concludes with (R170). -/
theorem State.endLoad_notified (s c t : State) (tick : Tick) (cu : CommandUnit) (hc : s.concluded tick = c)
    (hcu : cu = { c.cu with state := .idle }) (ht : t = (s.endLoad tick).notify) :
    t = { c with cu := cu.settle cu.judge, device := t.device } ∧
      Notified c t (cu.judge.raises c.device).events := by
  rw [State.endLoad_eq, hc, ← hcu] at ht
  obtain ⟨hstate, hdevice, hsummary⟩ := State.evaluate_notified { c with cu := cu } t ht
  exact ⟨hstate, hdevice, hsummary⟩

theorem State.concludeLoad_stopped (s : State) (cause : LoadCause) (h : s.loader.stage = .stopped cause) :
    s.concludeLoad =
      { s with loader := s.loader.finish (s.loader.failResult cause), device := s.device.raise .loadFail } := by
  unfold State.concludeLoad
  rw [h]

theorem State.startTimelines_timeline (s : State) (tick : Tick) (u : TimelineId) :
    (s.startTimelines tick).timeline u = (s.timeline u).start tick := by cases u <;> rfl

/-- Settles O48: the reading stopped, or stopped by the test of the sum, is concluded as failed. -/
theorem failedLoadsApplyNothing : Obligations.FailedLoadsApplyNothing := by
  refine fun s tick => ⟨fun hreading => exec_loadEnd_idle s tick ?_, fun cause cu hcu hstage => ?_⟩
  · unfold Loader.readingDone
    rcases hreading with h | h | ⟨m, p, h⟩ | ⟨m, n, h⟩ <;> rw [h]
  · have hdone : s.loader.readingDone = true := by
      unfold Loader.readingDone
      rcases hstage with h | ⟨h, -⟩ <;> rw [h]
    have hrest : ∃ d, s.restOfLoad = { s with loader := { s.loader with stage := .stopped cause }, device := d } ∧
        d = { s.device with summary := d.summary, line := d.line } := by
      rcases s.restOfLoad_stopped cause hstage with ⟨h, hs⟩ | h
      · exact ⟨s.device, by rw [h, ← hs], rfl⟩
      · exact ⟨_, h, rfl⟩
    obtain ⟨d, hrest, hd⟩ := hrest
    have hconclude : s.restOfLoad.concludeLoad =
        { s with loader := s.loader.finish (s.loader.failResult cause), device := d.raise .loadFail } := by
      rw [hrest]
      exact State.concludeLoad_stopped _ cause rfl
    have hconcluded : s.concluded tick =
        { (if s.loader.powerOn then s.startTimelines tick else s) with
          loader := s.loader.finish (s.loader.failResult cause), device := d.raise .loadFail } := by
      unfold State.concluded
      rw [hconclude]
      split <;> rfl
    obtain ⟨ht, hdevice, hsummary⟩ := s.endLoad_notified _ _ tick cu hconcluded (by rw [hcu]; split <;> rfl) rfl
    refine ⟨_, exec_loadEnd_done s tick hdone, ?_, fun u => ?_, ?_, hsummary⟩
    · generalize (s.endLoad tick).notify = t at ht
      rw [ht]
      split <;> rfl
    · generalize (s.endLoad tick).notify = t at ht
      rw [ht, ← Timeline.start_eq]
      by_cases hpower : s.loader.powerOn = true
      · rw [if_pos hpower, if_pos hpower, ← State.startTimelines_timeline]
        cases u <;> rfl
      · rw [if_neg hpower, if_neg hpower]
        cases u <;> rfl
    · generalize (s.endLoad tick).notify = t at hdevice
      rw [hdevice, hd]
      cases cu.judge <;> rfl

end Sys2Proof.Machine

/-! The modules of the start-up image, each applied to its own block (R165 to R167, R4, R10, R14, R33, R116), and the
openings' order (R168). -/

namespace Sys2Proof.Machine

/-! ## The House module (R4, R10, R14) -/

theorem Reference.setFamily_eq (r : Reference) (given : Option RefFamily) (family : RefFamily)
    (h : family = given.getD r.family) :
    r.setFamily given =
      if family = r.family then r
      else { r with
        family := family, lastPulse := none, goodRun := 0
        source := if r.source = .locked ∧ r.mode = .auto then .internal
          else if r.source = .locked ∧ r.mode = .manualExternal then .holdover
          else r.source } := by
  subst h
  cases given with
  | none => exact (if_pos rfl).symm
  | some f =>
    show (if f = r.family then r else _) = if f = r.family then r else _
    rw [← sourceAfterAbsence_eq]
    rfl

theorem Timeline.setStandard_start (tl : Timeline) (given : Option Standard) (st : Standard) (tick : Tick)
    (h : st = given.getD tl.standard) :
    (tl.setStandard given).start tick =
      { state := .running, standard := st, nextBoundary := some (tick + BitVec.ofNat 32 st.nominal), counter := 0
        nextParity := if st.interlaced then .top else .frame
        nextTimecode := ⟨0, 0, 0, 0, st.drop, false⟩, currentTimecode := none } := by
  subst h
  cases given <;> rfl

theorem State.applyHouse_port (s : State) (body : List Word16) (p : PortId) :
    (s.applyHouse body).port p =
      (s.port p).setTimeline (timelineOfCode (flashWord body (3 + p.val))) :=
  tget_ofFn _ _

theorem State.applyHouse_device (s : State) (body : List Word16) :
    (s.applyHouse body).device =
      { s.device with
        events := s.device.events |||
          (if (s.applyHouse body).reference.source = s.reference.source then 0 else 0x01) } := by
  have hset : ∀ r : Reference, (s.setReference r).device =
      { s.device with events := s.device.events ||| (if r.source = s.reference.source then 0 else 0x01) } := by
    intro r
    unfold State.setReference
    by_cases h : r.source = s.reference.source
    · simp [h]
    · simp only [if_neg h]
      rfl
  exact hset _

/-! ## The Track module (R33) -/

theorem State.applyTrack_trackK (s : State) (body : List Word16) (k : Fin 5) :
    tget (s.applyTrack body).trackK k =
      if k.val < 2 ∨ flashWord body (k.val - 2) = 0xFFFF then tget s.trackK k
      else max 1 (flashWord body (k.val - 2)) := by
  have hentry : ∀ old w : Nat, trackEntry old w = if w = 0xFFFF then old else max 1 w := fun _ _ => rfl
  unfold State.applyTrack applyTrackWord
  dsimp only
  fin_cases k <;> simp [tget_tset, hentry]

/-! ## The Profile module (R116) -/

/-- The last of a sequence of changes that strikes gives the value. -/
theorem last_change {α : Type} (a : Nat → α) (hit : Nat → Prop) (v : Nat → α) (N : Nat)
    (hhit : ∀ n, n < N → hit n → a (n + 1) = v n) (hmiss : ∀ n, n < N → ¬hit n → a (n + 1) = a n) :
    ((∀ n, n < N → ¬hit n) → a N = a 0) ∧
      ∀ n, n < N → hit n → (∀ k, n < k → k < N → ¬hit k) → a N = v n := by
  induction N with
  | zero => exact ⟨fun _ => rfl, fun n hn => absurd hn (Nat.not_lt_zero n)⟩
  | succ N ih =>
    obtain ⟨hnone, hlast⟩ := ih (fun n hn => hhit n (by omega)) (fun n hn => hmiss n (by omega))
    refine ⟨fun h => ?_, fun n hn hstruck hlater => ?_⟩
    · rw [hmiss N (by omega) (h N (by omega))]
      exact hnone fun n hn => h n (by omega)
    · by_cases heq : n = N
      · subst heq
        exact hhit n (by omega) hstruck
      · rw [hmiss N (by omega) (hlater N (by omega) (by omega))]
        exact hlast n (by omega) hstruck fun k hk hkN => hlater k hk (by omega)

/-- The part after the first `n` entries of a Profile module. -/
def State.profilesAfter (s : State) (body : List Word16) (n : Nat) : State :=
  (List.range n).foldl (State.applyProfileEntry body) s

theorem State.profilesAfter_succ (s : State) (body : List Word16) (n : Nat) :
    s.profilesAfter body (n + 1) = (s.profilesAfter body n).applyProfileEntry body n := by
  unfold State.profilesAfter
  rw [List.range_succ, List.foldl_append]
  rfl

theorem State.applyProfiles_eq (s : State) (body : List Word16) :
    s.applyProfiles body = s.profilesAfter body (body.length / 19) := rfl

theorem State.applyProfileEntry_profile (s : State) (body : List Word16) (n : Nat) (i : ProfileId) :
    (profileWriteStatus (profileEntry body n) = .ok ∧ flashWord body (19 * n) = i.val →
      (s.applyProfileEntry body n).profile i = (profileEntry body n).contents) ∧
    (¬(profileWriteStatus (profileEntry body n) = .ok ∧ flashWord body (19 * n) = i.val) →
      (s.applyProfileEntry body n).profile i = s.profile i) := by
  have hindex : profileWriteStatus (profileEntry body n) = .ok → flashWord body (19 * n) < 32 := by
    unfold profileWriteStatus
    intro h
    by_contra hlt
    rw [if_pos (show 32 ≤ (profileEntry body n).profile from Nat.le_of_not_lt hlt)] at h
    cases h
  unfold State.applyProfileEntry tryProfileWrite
  by_cases hok : profileWriteStatus (profileEntry body n) = .ok
  · have hlt := hindex hok
    rw [if_pos hok]
    have hset : ∀ x : Profile, tget (tset s.profiles (Fin.ofNat 32 (flashWord body (19 * n))) x) i =
        if flashWord body (19 * n) = i.val then x else s.profile i := fun x => by
      have heq : Fin.ofNat 32 (flashWord body (19 * n)) = i ↔ flashWord body (19 * n) = i.val := by
        rw [Fin.ext_iff, Fin.val_ofNat, Nat.mod_eq_of_lt hlt]
      rw [tget_tset]
      simp only [heq]
      rfl
    exact ⟨fun h => (hset _).trans (if_pos h.2), fun h => (hset _).trans (if_neg fun hi => h ⟨hok, hi⟩)⟩
  · rw [if_neg hok]
    exact ⟨fun h => absurd h.1 hok, fun _ => rfl⟩

/-- The checks of a Profile entry, whose points the module always holds (R116, R117). -/
theorem profileEntry_status (body : List Word16) (n : Nat) :
    profileWriteStatus (profileEntry body n) = firstFailure
      [(decide (flashWord body (19 * n) < 32), .range), (decide (4 ≤ flashWord body (19 * n)), .fixed),
       (decide (flashWord body (19 * n + 1) ≤ 1), .range),
       (decide (flashWord body (19 * n + 1) = 0 →
          ((List.range 17).map (fun k => flashWord body (19 * n + 2 + k)))[0]? = some 0 ∧
          ((List.range 17).map (fun k => flashWord body (19 * n + 2 + k)))[16]? = some 64 ∧
          ((List.range 17).map (fun k => flashWord body (19 * n + 2 + k))).Pairwise (· ≤ ·)), .curveInvalid)] := by
  have hchecks := profileWriteStatus_eq_firstFailure (flashWord body (19 * n)) (flashWord body (19 * n + 1)) True
    ((List.range 17).map (fun k => flashWord body (19 * n + 2 + k)))
  have hkind : (flashWord body (19 * n + 1) = 0 ∨ flashWord body (19 * n + 1) = 1) ↔
    flashWord body (19 * n + 1) ≤ 1 := by
    omega
  have hlength : ((List.range 17).map (fun k => flashWord body (19 * n + 2 + k))).length = 17 := by simp
  simp only [curveValid_getElem_iff, hlength, true_and, hkind] at hchecks
  refine hchecks.trans ?_
  simp only [firstFailure_cons, implies_true, decide_true, if_true]

theorem State.applyProfileEntry_result (s : State) (body : List Word16) (n : Nat) :
    (s.applyProfileEntry body n).loader.result =
      s.loader.result.addProfile (profileWriteStatus (profileEntry body n)) := by
  unfold State.applyProfileEntry tryProfileWrite
  split
  · next h => rw [h]; rfl
  · rfl

theorem countP_range_succ (p : Nat → Bool) (n : Nat) :
    (List.range (n + 1)).countP p = (List.range n).countP p + if p n then 1 else 0 := by
  rw [List.range_succ, List.countP_append, List.countP_singleton]

/-- The counts of a Profile module, and what else of the result stays (R170). -/
theorem State.profilesAfter_result (s : State) (body : List Word16) (N : Nat) :
    (s.profilesAfter body N).loader.result =
      { s.loader.result with
        profileApplied := s.loader.result.profileApplied +
          (List.range N).countP (fun n => profileWriteStatus (profileEntry body n) == .ok)
        profileRefused := s.loader.result.profileRefused +
          (List.range N).countP (fun n => profileWriteStatus (profileEntry body n) != .ok) } := by
  induction N with
  | zero => rfl
  | succ N ih =>
    rw [State.profilesAfter_succ, State.applyProfileEntry_result, ih, countP_range_succ, countP_range_succ]
    unfold LoaderResult.addProfile
    by_cases h : profileWriteStatus (profileEntry body N) = .ok <;> simp [h, Nat.add_assoc]

theorem State.applyProfiles_profile (s : State) (body : List Word16) (i : ProfileId) :
    ((∀ n, n < body.length / 19 → flashWord body (19 * n) = i.val → profileWriteStatus (profileEntry body n) ≠ .ok) →
      (s.applyProfiles body).profile i = s.profile i) ∧
    ∀ n, n < body.length / 19 → flashWord body (19 * n) = i.val → profileWriteStatus (profileEntry body n) = .ok →
      (∀ k, n < k → k < body.length / 19 → flashWord body (19 * k) = i.val →
        profileWriteStatus (profileEntry body k) ≠ .ok) →
      (s.applyProfiles body).profile i = (profileEntry body n).contents := by
  have hstep : ∀ n, (s.profilesAfter body (n + 1)).profile i =
      ((s.profilesAfter body n).applyProfileEntry body n).profile i := fun n => by rw [State.profilesAfter_succ]
  obtain ⟨hnone, hlast⟩ := last_change (fun n => (s.profilesAfter body n).profile i)
    (fun n => profileWriteStatus (profileEntry body n) = .ok ∧ flashWord body (19 * n) = i.val)
    (fun n => (profileEntry body n).contents) (body.length / 19)
    (fun n _ h => (hstep n).trans ((State.applyProfileEntry_profile _ body n i).1 h))
    (fun n _ h => (hstep n).trans ((State.applyProfileEntry_profile _ body n i).2 h))
  rw [State.applyProfiles_eq]
  exact ⟨fun h => hnone fun n hn hhit => h n hn hhit.2 hhit.1,
    fun n hn hi hok hlater => hlast n hn ⟨hok, hi⟩ fun k hk hkN hhit => hlater k hk hkN hhit.2 hhit.1⟩

end Sys2Proof.Machine

/-! The Feed module of the start-up image: a FEED_SET of each feed it holds an entry for (R35, R165). -/

namespace Sys2Proof.Machine

/-! ## The checks of an entry (R35) -/

theorem feedField_le_one_iff (w : Nat) : feedField w 0 ≤ 1 ↔ w ∈ [0, 1, 0xFFFF] := by
  unfold feedField
  simp only [List.mem_cons, List.not_mem_nil, or_false]
  split <;> omega

theorem feedField_le_four_iff (w : Nat) : feedField w 2 ≤ 4 ↔ w ∈ [0, 1, 2, 3, 4, 0xFFFF] := by
  unfold feedField
  simp only [List.mem_cons, List.not_mem_nil, or_false]
  split <;> omega

/-- The checks of a Feed entry that do not ask for the feed (R35). -/
def feedEntryChecks (body : List Word16) (f : Nat) : Status :=
  firstFailure
    [(decide (flashWord body (5 * f) ≤ 10), .range), (decide (flashWord body (5 * f + 1) ∈ [0, 1, 0xFFFF]), .range),
     (decide (flashWord body (5 * f + 2) ∈ [0, 1, 2, 3, 4, 0xFFFF]), .range)]

theorem firstFailure_cons_ok_iff (passed : Bool) (status : Status) (l : List (Bool × Status)) (h : status ≠ .ok) :
    firstFailure ((passed, status) :: l) = .ok ↔ passed = true ∧ firstFailure l = .ok := by
  rw [firstFailure_cons]
  cases passed <;> simp [h]

theorem feedEntryChecks_ok_iff (body : List Word16) (f : Nat) :
    feedEntryChecks body f = .ok ↔ (feedEntry body f).standard ≤ 10 ∧ (feedEntry body f).profile ≤ 1 ∧
      (feedEntry body f).trackSlot ≤ 4 := by
  have hprofile : (feedEntry body f).profile ≤ 1 ↔ _ := feedField_le_one_iff _
  have hslot : (feedEntry body f).trackSlot ≤ 4 ↔ _ := feedField_le_four_iff _
  have hstandard : (feedEntry body f).standard ≤ 10 ↔ flashWord body (5 * f) ≤ 10 := Iff.rfl
  rw [hprofile, hslot, hstandard]
  unfold feedEntryChecks
  simp [firstFailure_cons_ok_iff, firstFailure_nil]

theorem feedSetStatus_ok_iff (s : State) (q : FeedRequest) :
    feedSetStatus s q = .ok ↔ q.feed < 8 ∧ q.standard ≤ 10 ∧ q.profile ≤ 1 ∧ q.trackSlot ≤ 4 ∧
      (standardOfCode q.standard = (s.feed q.feedId).standard ∨ (s.feed q.feedId).routeCount = 0) := by
  rw [feedSetStatus_eq_firstFailure]
  simp [firstFailure_cons_ok_iff, firstFailure_nil]

theorem feedEntry_status_ok_iff (s : State) (body : List Word16) (f : Nat) (hf : f < 8) :
    feedSetStatus s (feedEntry body f) = .ok ↔ feedEntryChecks body f = .ok ∧
      (standardOfCode (flashWord body (5 * f)) = (s.feed (Fin.ofNat 8 f)).standard ∨
        (s.feed (Fin.ofNat 8 f)).routeCount = 0) := by
  rw [feedSetStatus_ok_iff, feedEntryChecks_ok_iff, and_assoc, and_assoc]
  exact ⟨fun h => h.2, fun h => ⟨hf, h⟩⟩

/-! ## One entry -/

/-- Whether a Feed module holds an entry that does not leave the feed as it is (R165). -/
def FeedEntryPresent (body : List Word16) (f : Nat) : Prop :=
  5 * f + 5 ≤ body.length ∧ flashWord body (5 * f) ≠ 0xFFFF

theorem State.applyFeedEntry_absent (s : State) (body : List Word16) (f : Nat) (h : ¬FeedEntryPresent body f) :
    s.applyFeedEntry body f = s := if_neg h

theorem State.applyFeedEntry_refused (s : State) (body : List Word16) (f : Nat) (h : FeedEntryPresent body f)
    (hstatus : feedSetStatus s (feedEntry body f) ≠ .ok) :
    s.applyFeedEntry body f = s.setResult (s.loader.result.addFeed (feedSetStatus s (feedEntry body f))) := by
  unfold State.applyFeedEntry tryFeedSet
  exact (if_pos h).trans (by rw [if_neg hstatus])

theorem State.applyFeedEntry_applied (s : State) (body : List Word16) (f : Nat) (h : FeedEntryPresent body f)
    (hstatus : feedSetStatus s (feedEntry body f) = .ok) :
    s.applyFeedEntry body f = (s.applyFeedSet (feedEntry body f)).setResult (s.loader.result.addFeed .ok) := by
  unfold State.applyFeedEntry tryFeedSet
  exact (if_pos h).trans (by rw [if_pos hstatus])

theorem State.applyFeedEntry_result (s : State) (body : List Word16) (f : Nat) :
    (FeedEntryPresent body f → (s.applyFeedEntry body f).loader.result =
      s.loader.result.addFeed (feedSetStatus s (feedEntry body f))) ∧
    (¬FeedEntryPresent body f → (s.applyFeedEntry body f).loader.result = s.loader.result) := by
  refine ⟨fun h => ?_, fun h => by rw [s.applyFeedEntry_absent body f h]⟩
  by_cases hstatus : feedSetStatus s (feedEntry body f) = .ok
  · rw [s.applyFeedEntry_applied body f h hstatus, hstatus]
    rfl
  · rw [s.applyFeedEntry_refused body f h hstatus]
    rfl

theorem State.applyFeedSet_other (s : State) (q : FeedRequest) (g : FeedId) (h : q.feedId ≠ g) :
    (s.applyFeedSet q).feed g = s.feed g ∧ (s.applyFeedSet q).feedPort g = s.feedPort g := by
  by_cases hstandard : standardOfCode q.standard = (s.feed q.feedId).standard
  · rw [s.applyFeedSet_same q hstandard]
    exact ⟨(State.setFeed_feed s _ g _).trans (if_neg h), rfl⟩
  · rw [s.applyFeedSet_restart q hstandard]
    exact ⟨(State.setFeed_feed s _ g _).trans (if_neg h), (State.setFeedPort_feedPort s _ g _).trans (if_neg h)⟩

theorem State.applyFeedEntry_other (s : State) (body : List Word16) (f : Nat) (g : FeedId) (h : Fin.ofNat 8 f ≠ g) :
    (s.applyFeedEntry body f).feed g = s.feed g ∧ (s.applyFeedEntry body f).feedPort g = s.feedPort g := by
  by_cases hpresent : FeedEntryPresent body f
  · by_cases hstatus : feedSetStatus s (feedEntry body f) = .ok
    · rw [s.applyFeedEntry_applied body f hpresent hstatus]
      exact s.applyFeedSet_other (feedEntry body f) g h
    · rw [s.applyFeedEntry_refused body f hpresent hstatus]
      exact ⟨rfl, rfl⟩
  · rw [s.applyFeedEntry_absent body f hpresent]
    exact ⟨rfl, rfl⟩

/-- An entry that is absent or that no feed accepts leaves its feed (R165). -/
theorem State.applyFeedEntry_left (s : State) (body : List Word16) (f : FeedId)
    (h : ¬FeedEntryPresent body f.val ∨ feedEntryChecks body f.val ≠ .ok) :
    (s.applyFeedEntry body f.val).feed f = s.feed f ∧ (s.applyFeedEntry body f.val).feedPort f = s.feedPort f := by
  by_cases hpresent : FeedEntryPresent body f.val
  · have hstatus : feedSetStatus s (feedEntry body f.val) ≠ .ok := fun hok =>
      (h.resolve_left (not_not_intro hpresent)) ((feedEntry_status_ok_iff s body f.val f.isLt).1 hok).1
    rw [s.applyFeedEntry_refused body f.val hpresent hstatus]
    exact ⟨rfl, rfl⟩
  · rw [s.applyFeedEntry_absent body f.val hpresent]
    exact ⟨rfl, rfl⟩

/-- What an entry makes of a feed at its reset values (R35, R165). -/
theorem State.applyFeedEntry_reset (s : State) (body : List Word16) (f : FeedId) (st : Option Standard)
    (hlength : 5 * f.val + 5 ≤ body.length) (hchecks : feedEntryChecks body f.val = .ok)
    (hst : st = standardOfCode (flashWord body (5 * f.val))) (hreset : s.feed f = Feed.reset) :
    (s.applyFeedEntry body f.val).feed f =
        { s.feed f with
          standard := st
          profile := if flashWord body (5 * f.val + 1) = 1 then .nominal else .track
          trackSlot := if flashWord body (5 * f.val + 2) = 0xFFFF then 2
            else Fin.ofNat 5 (flashWord body (5 * f.val + 2))
          freeze := decide (flashWord body (5 * f.val + 3) ≠ 0xFFFF ∧ flashWord body (5 * f.val + 3) ≠ 0)
          threshold := if flashWord body (5 * f.val + 4) = 0xFFFF then 2048
            else BitVec.ofNat 16 (flashWord body (5 * f.val + 4))
          state := if st = none then .unconfigured else .empty
          period := 256 * (st.map Standard.nominal).getD 0
          events := if st = none then 0 else 0x1 } ∧
      (s.applyFeedEntry body f.val).feedPort f =
        { s.feedPort f with refs := if st = none then (s.feedPort f).refs else [] } ∧
      (s.applyFeedEntry body f.val).slots = s.slots := by
  obtain ⟨hstandard, hprofile, hslot⟩ := (feedEntryChecks_ok_iff body f.val).1 hchecks
  have hid : (feedEntry body f.val).feedId = f := Fin.ofNat_val_eq_self f
  have hpresent : FeedEntryPresent body f.val := ⟨hlength, fun h => by
    rw [show (feedEntry body f.val).standard = flashWord body (5 * f.val) from rfl, h] at hstandard
    omega⟩
  have hstatus : feedSetStatus s (feedEntry body f.val) = .ok := by
    rw [feedEntry_status_ok_iff s body f.val f.isLt]
    refine ⟨hchecks, .inr ?_⟩
    rw [Fin.ofNat_val_eq_self, hreset]
    rfl
  rw [s.applyFeedEntry_applied body f.val hpresent hstatus]
  have hpart : ∀ t : State, (t.setResult (s.loader.result.addFeed .ok)).feed f = t.feed f ∧
      (t.setResult (s.loader.result.addFeed .ok)).feedPort f = t.feedPort f ∧
      (t.setResult (s.loader.result.addFeed .ok)).slots = t.slots := fun t => ⟨rfl, rfl, rfl⟩
  obtain ⟨h1, h2, h3⟩ := hpart (s.applyFeedSet (feedEntry body f.val))
  rw [h1, h2, h3]
  have hold : standardOfCode (feedEntry body f.val).standard = st := hst.symm
  have hfields : (if (feedEntry body f.val).profile = 1 then FeedProfile.nominal else .track) =
        (if flashWord body (5 * f.val + 1) = 1 then .nominal else .track) ∧
      Fin.ofNat 5 (feedEntry body f.val).trackSlot =
        (if flashWord body (5 * f.val + 2) = 0xFFFF then 2 else Fin.ofNat 5 (flashWord body (5 * f.val + 2))) ∧
      (feedEntry body f.val).freeze =
        decide (flashWord body (5 * f.val + 3) ≠ 0xFFFF ∧ flashWord body (5 * f.val + 3) ≠ 0) ∧
      (feedEntry body f.val).threshold =
        (if flashWord body (5 * f.val + 4) = 0xFFFF then 2048
          else BitVec.ofNat 16 (flashWord body (5 * f.val + 4))) := by
    unfold feedEntry feedField
    refine ⟨?_, ?_, ?_, ?_⟩
    · dsimp only
      by_cases h : flashWord body (5 * f.val + 1) = 65535 <;> simp [h]
    · dsimp only
      by_cases h : flashWord body (5 * f.val + 2) = 65535 <;> simp [h]
    · dsimp only
      by_cases h : flashWord body (5 * f.val + 3) = 65535 <;> simp [h, bne, BEq.beq]
    · dsimp only
      by_cases h : flashWord body (5 * f.val + 4) = 65535 <;> simp [h]
  obtain ⟨hp, ht, hf, hth⟩ := hfields
  cases st with
  | none =>
    have hsame : standardOfCode (feedEntry body f.val).standard = (s.feed (feedEntry body f.val).feedId).standard := by
      rw [hold, hid, hreset]
      rfl
    rw [s.applyFeedSet_same _ hsame, hid, Feed.configure_pinNominal_eq _ _ hprofile, hp, ht, hf, hth]
    refine ⟨(State.setFeed_feed_self s f _).trans ?_, rfl, rfl⟩
    rw [hreset]
    simp [Feed.reset]
  | some st =>
    have hother : standardOfCode (feedEntry body f.val).standard ≠ (s.feed (feedEntry body f.val).feedId).standard := by
      rw [hold, hid, hreset]
      exact Option.some_ne_none st
    have hcode : (feedEntry body f.val).standard ≠ 0 := fun h => by
      have hsome := standardOfCode_isSome _ hstandard
      rw [hold, h] at hsome
      exact Bool.false_ne_true hsome.symm
    rw [s.applyFeedSet_restart _ hother, hid]
    refine ⟨(State.setFeed_feed_self s f _).trans ?_, (State.setFeedPort_feedPort_self s f _).trans rfl, ?_⟩
    · rw [Feed.restart_eq _ _ hprofile hstandard, hp, ht, hf, hth, hold, hreset, if_neg hcode]
      rfl
    · rw [hreset]
      rfl

/-! ## The entries in their order -/

/-- The part after the first `n` entries of a Feed module. -/
def State.feedsAfter (s : State) (body : List Word16) (n : Nat) : State :=
  (List.range n).foldl (State.applyFeedEntry body) s

theorem State.feedsAfter_succ (s : State) (body : List Word16) (n : Nat) :
    s.feedsAfter body (n + 1) = (s.feedsAfter body n).applyFeedEntry body n := by
  unfold State.feedsAfter
  rw [List.range_succ, List.foldl_append]
  rfl

/-- A feed is as it was until its entry, and from there as its entry leaves it. -/
theorem State.feedsAfter_feed (s : State) (body : List Word16) (g : FeedId) (n : Nat) (hn : n ≤ 8) :
    (n ≤ g.val → (s.feedsAfter body n).feed g = s.feed g ∧ (s.feedsAfter body n).feedPort g = s.feedPort g) ∧
    (g.val < n → ∃ x : State, x.feed g = s.feed g ∧ x.feedPort g = s.feedPort g ∧
      (s.feedsAfter body n).feed g = (x.applyFeedEntry body g.val).feed g ∧
      (s.feedsAfter body n).feedPort g = (x.applyFeedEntry body g.val).feedPort g) := by
  induction n with
  | zero => exact ⟨fun _ => ⟨rfl, rfl⟩, fun h => absurd h (Nat.not_lt_zero _)⟩
  | succ n ih =>
    obtain ⟨hbefore, hafter⟩ := ih (by omega)
    have hother : n ≠ g.val → Fin.ofNat 8 n ≠ g := fun hne h => hne (by
      rw [← h, Fin.val_ofNat, Nat.mod_eq_of_lt (by omega)])
    rw [State.feedsAfter_succ]
    refine ⟨fun h => ?_, fun h => ?_⟩
    · obtain ⟨hfeed, hport⟩ := (s.feedsAfter body n).applyFeedEntry_other body n g (hother (by omega))
      rw [hfeed, hport]
      exact hbefore (by omega)
    · by_cases heq : n = g.val
      · obtain ⟨hfeed, hport⟩ := hbefore (by omega)
        exact ⟨s.feedsAfter body n, hfeed, hport, by rw [heq], by rw [heq]⟩
      · obtain ⟨hfeed, hport⟩ := (s.feedsAfter body n).applyFeedEntry_other body n g (hother heq)
        rw [hfeed, hport]
        exact hafter (by omega)

theorem State.applyFeeds_feed (s : State) (body : List Word16) (g : FeedId) :
    ∃ x : State, x.feed g = s.feed g ∧ x.feedPort g = s.feedPort g ∧
      (s.applyFeeds body).feed g = (x.applyFeedEntry body g.val).feed g ∧
      (s.applyFeeds body).feedPort g = (x.applyFeedEntry body g.val).feedPort g :=
  (s.feedsAfter_feed body g 8 (le_refl 8)).2 g.isLt

/-- Every entry present is counted, applied or refused (R170). -/
theorem State.feedsAfter_result (s : State) (body : List Word16) (n : Nat) :
    ∃ applied refused : Nat, (s.feedsAfter body n).loader.result =
        { s.loader.result with
          feedApplied := s.loader.result.feedApplied + applied
          feedRefused := s.loader.result.feedRefused + refused } ∧
      applied + refused = (List.range n).countP
        (fun f => decide (5 * f + 5 ≤ body.length) && decide (flashWord body (5 * f) ≠ 0xFFFF)) := by
  induction n with
  | zero => exact ⟨0, 0, rfl, rfl⟩
  | succ n ih =>
    obtain ⟨applied, refused, hresult, hcount⟩ := ih
    obtain ⟨hpresent, habsent⟩ := (s.feedsAfter body n).applyFeedEntry_result body n
    rw [State.feedsAfter_succ, countP_range_succ, ← hcount]
    by_cases h : FeedEntryPresent body n
    · have hif : (decide (5 * n + 5 ≤ body.length) && decide (flashWord body (5 * n) ≠ 0xFFFF)) = true := by
        simpa [FeedEntryPresent] using h
      rw [hpresent h, hresult, if_pos hif]
      unfold LoaderResult.addFeed
      split
      · exact ⟨applied + 1, refused, rfl, by omega⟩
      · exact ⟨applied, refused + 1, rfl, by omega⟩
    · have hif : ¬(decide (5 * n + 5 ≤ body.length) && decide (flashWord body (5 * n) ≠ 0xFFFF)) = true := by
        simpa [FeedEntryPresent] using h
      rw [habsent h, hresult, if_neg hif]
      exact ⟨applied, refused, rfl, rfl⟩

/-- A Feed module on feeds at their reset values frees no slot and applies every entry whose checks hold. -/
theorem State.feedsAfter_of_reset (s : State) (body : List Word16) (hreset : ∀ f, s.feed f = Feed.reset) (n : Nat)
    (hn : n ≤ 8) :
    (s.feedsAfter body n).slots = s.slots ∧
    (s.feedsAfter body n).loader.result.feedApplied = s.loader.result.feedApplied + (List.range n).countP
      (fun f => decide (5 * f + 5 ≤ body.length) && feedEntryChecks body f == .ok) := by
  induction n with
  | zero => exact ⟨rfl, rfl⟩
  | succ n ih =>
    obtain ⟨hslots, hcount⟩ := ih (by omega)
    have hlt : n < 8 := by omega
    have hfeed : (s.feedsAfter body n).feed ⟨n, hlt⟩ = Feed.reset := by
      rw [((s.feedsAfter_feed body ⟨n, hlt⟩ n (by omega)).1 (le_refl n)).1, hreset]
    have hid : Fin.ofNat 8 n = ⟨n, hlt⟩ := Fin.ext (Nat.mod_eq_of_lt hlt)
    have hstatus : feedSetStatus (s.feedsAfter body n) (feedEntry body n) = .ok ↔ feedEntryChecks body n = .ok := by
      rw [feedEntry_status_ok_iff _ body n hlt, hid, hfeed]
      exact and_iff_left (.inr rfl)
    rw [State.feedsAfter_succ, countP_range_succ, ← Nat.add_assoc, ← hcount, ← hslots]
    generalize s.feedsAfter body n = x at hfeed hstatus ⊢
    by_cases hpresent : FeedEntryPresent body n
    · by_cases hok : feedEntryChecks body n = .ok
      · have hslots := (x.applyFeedEntry_reset body ⟨n, hlt⟩ _ hpresent.1 hok rfl hfeed).2.2
        refine ⟨hslots, ?_⟩
        rw [(x.applyFeedEntry_result body n).1 hpresent, hstatus.2 hok, if_pos (by simp [hpresent.1, hok])]
        rfl
      · rw [x.applyFeedEntry_refused body n hpresent fun h => hok (hstatus.1 h), if_neg (by simp [hok])]
        refine ⟨rfl, ?_⟩
        show (x.loader.result.addFeed _).feedApplied = _
        unfold LoaderResult.addFeed
        rw [if_neg fun h => hok (hstatus.1 h)]
        rfl
    · rw [x.applyFeedEntry_absent body n hpresent, if_neg]
      · exact ⟨rfl, rfl⟩
      · rw [Bool.and_eq_true, decide_eq_true_iff, beq_iff_eq]
        rintro ⟨hlength, hok⟩
        have hstandard : flashWord body (5 * n) ≤ 10 := ((feedEntryChecks_ok_iff body n).1 hok).1
        exact hpresent ⟨hlength, by omega⟩

theorem State.applyFeeds_eq (s : State) (body : List Word16) : s.applyFeeds body = s.feedsAfter body 8 := rfl

end Sys2Proof.Machine

/-! The parts of a load in their order: the modules, the openings' order and the openings (R165, R168, R169). -/

namespace Sys2Proof.Machine

/-! ## The openings' order (R168) -/

theorem mem_autostartOrder (presets : Vector (Option Preset) 16) (n : PresetId) :
    n ∈ autostartOrder presets ↔ ∃ p, tget presets n = some p ∧ 1 ≤ p.startOrder ∧ p.startOrder ≤ 16 := by
  unfold autostartOrder
  simp only [List.mem_flatMap, List.mem_range, List.mem_filter, List.mem_finRange, true_and, Option.any_eq_true,
    beq_iff_eq]
  constructor
  · rintro ⟨o, ho, p, hp, hstart⟩
    exact ⟨p, hp, by omega, by omega⟩
  · rintro ⟨p, hp, hlow, hhigh⟩
    exact ⟨p.startOrder - 1, by omega, p, hp, by omega⟩

/-- The presets are opened by their start order, and by their number in one start order. -/
theorem autostartOrder_sorted (presets : Vector (Option Preset) 16) :
    (autostartOrder presets).Pairwise (fun a b => ∀ p q, tget presets a = some p → tget presets b = some q →
      p.startOrder < q.startOrder ∨ (p.startOrder = q.startOrder ∧ a < b)) := by
  have hstart : ∀ (o : Nat) (n : PresetId) (p : Preset),
      n ∈ (List.finRange 16).filter (fun n => (tget presets n).any (fun p => p.startOrder == o + 1)) →
      tget presets n = some p → p.startOrder = o + 1 := by
    intro o n p hn hp
    have hany := (List.mem_filter.1 hn).2
    rw [hp] at hany
    exact beq_iff_eq.1 hany
  unfold autostartOrder
  rw [List.pairwise_flatMap]
  refine ⟨fun o _ => ?_, ?_⟩
  · have hlt : ((List.finRange 16).filter
        (fun n => (tget presets n).any (fun p => p.startOrder == o + 1))).Pairwise (· < ·) :=
      (List.pairwise_lt_finRange 16).filter _
    refine hlt.imp_of_mem fun ha hb hab p q hp hq => .inr ⟨?_, hab⟩
    rw [hstart o _ p ha hp, hstart o _ q hb hq]
  · refine List.pairwise_lt_range.imp fun hab x hx y hy p q hp hq => .inl ?_
    rw [hstart _ x p hx hp, hstart _ y q hy hq]
    omega

theorem autostartOrder_nodup (presets : Vector (Option Preset) 16) : (autostartOrder presets).Nodup := by
  refine (autostartOrder_sorted presets).imp_of_mem fun {a b} ha hb hab heq => ?_
  subst heq
  obtain ⟨p, hp, -⟩ := (mem_autostartOrder presets a).1 ha
  rcases hab p p hp hp with h | ⟨-, h⟩
  · exact Nat.lt_irrefl _ h
  · exact (lt_irrefl _ h).elim

theorem length_autostartOrder (presets : Vector (Option Preset) 16)
    (hbound : ∀ n p, tget presets n = some p → p.startOrder ≤ 16) :
    (autostartOrder presets).length =
      (List.finRange 16).countP (fun n => (tget presets n).any (fun p => decide (p.startOrder ≠ 0))) := by
  rw [List.countP_eq_length_filter]
  refine List.Perm.length_eq ((List.perm_ext_iff_of_nodup (autostartOrder_nodup presets)
    ((List.nodup_finRange 16).filter _)).2 fun n => ?_)
  rw [mem_autostartOrder, List.mem_filter, Option.any_eq_true]
  refine ⟨fun ⟨p, hp, hlow, _⟩ => ⟨List.mem_finRange n, p, hp, decide_eq_true (by omega)⟩, fun ⟨_, p, hp, hne⟩ => ?_⟩
  exact ⟨p, hp, Nat.one_le_iff_ne_zero.2 (of_decide_eq_true hne), hbound n p hp⟩

/-! ## The modules and the openings in their order -/

/-- The part after a load's modules, each part done in its turn. -/
def applyModules : List ModuleId → State → State
  | [], s => s
  | m :: left, s => applyModules left ((s.applyModule m).partDone (.applying left))

theorem applyAll_eq (l : List ModuleId) (s : State) :
    applyAll l s = openAll (applyModules l s).openingOrder (applyModules l s).beginOpenings := by
  induction l generalizing s with
  | nil => rfl
  | cons m left ih => exact ih _

/-- What no module of a load changes is as it was after them. -/
theorem applyModules_keeps {α : Type} (g : State → α) (l : List ModuleId) (s : State)
    (hdone : ∀ t st, g (t.partDone st) = g t) (hmodule : ∀ m ∈ l, ∀ t, g (t.applyModule m) = g t) :
    g (applyModules l s) = g s := by
  induction l generalizing s with
  | nil => rfl
  | cons m left ih =>
    refine (ih _ fun m' hm' => hmodule m' (List.mem_cons_of_mem _ hm')).trans ?_
    rw [hdone, hmodule m (by simp)]

/-- A Profile module in one equation: the Profile Table and its two counts. -/
theorem State.applyProfiles_exists (s : State) (body : List Word16) :
    ∃ table applied refused, s.applyProfiles body =
      { s with
        profiles := table
        loader := { s.loader with
          result := { s.loader.result with profileApplied := applied, profileRefused := refused } } } := by
  exact ⟨_, _, _, (s.applyProfiles_only body).trans (congrArg
    (fun r => { s with profiles := (s.applyProfiles body).profiles, loader := { s.loader with result := r } })
    (s.profilesAfter_result body (body.length / 19)))⟩

/-- A Feed module in one equation: the Feed Table, the feed ports, the slots and its two counts. -/
theorem State.applyFeeds_exists (s : State) (body : List Word16) :
    ∃ feeds ports slots applied refused, s.applyFeeds body =
      { s with
        feeds := feeds, feedPorts := ports, slots := slots
        loader := { s.loader with
          result := { s.loader.result with feedApplied := applied, feedRefused := refused } } } := by
  obtain ⟨applied, refused, hresult, -⟩ := s.feedsAfter_result body 8
  exact ⟨_, _, _, _, _, (s.applyFeeds_only body).trans (congrArg
    (fun r => { s with
      feeds := (s.applyFeeds body).feeds, feedPorts := (s.applyFeeds body).feedPorts
      slots := (s.applyFeeds body).slots, loader := { s.loader with result := r } }) hresult)⟩

theorem State.applyModule_bodies (s : State) (m : ModuleId) : (s.applyModule m).loader.bodies = s.loader.bodies := by
  cases m with
  | house => rfl
  | track => rfl
  | profile =>
    obtain ⟨_, _, _, h⟩ := s.applyProfiles_exists (s.loader.body .profile)
    exact (congrArg (fun t : State => t.loader.bodies) h :)
  | feed =>
    obtain ⟨_, _, _, _, _, h⟩ := s.applyFeeds_exists (s.loader.body .feed)
    exact (congrArg (fun t : State => t.loader.bodies) h :)
  | preset => rfl

/-- A block that one module alone changes is after them as that module leaves it. -/
theorem applyModules_block {α : Type} (g : State → α) (m : ModuleId) (l : List ModuleId) (s : State) (hm : m ∈ l)
    (hl : l.Nodup) (hdone : ∀ t st, g (t.partDone st) = g t)
    (hmodule : ∀ m', m' ≠ m → ∀ t, g (t.applyModule m') = g t) :
    ∃ x : State, g x = g s ∧ x.loader.bodies = s.loader.bodies ∧ g (applyModules l s) = g (x.applyModule m) := by
  induction l generalizing s with
  | nil => exact absurd hm List.not_mem_nil
  | cons m' left ih =>
    obtain ⟨hnot, hleft⟩ := List.nodup_cons.1 hl
    by_cases heq : m' = m
    · subst heq
      refine ⟨s, rfl, rfl, (applyModules_keeps g left _ hdone fun m hmem => hmodule m fun h => ?_).trans (hdone _ _)⟩
      exact hnot (h ▸ hmem)
    · obtain ⟨x, hx, hbodies, hafter⟩ := ih ((s.applyModule m').partDone (.applying left))
        ((List.mem_cons.1 hm).resolve_left (Ne.symm heq)) hleft
      refine ⟨x, ?_, ?_, hafter⟩
      · rw [hx, hdone, hmodule m' heq]
      · rw [hbodies]
        exact s.applyModule_bodies m'

/-! ## The blocks the modules change -/

/-- The device scope without what follows from the events (R161). -/
def Device.quiet (d : Device) : Device := { d with summary := 0, line := false }

/-- What the House module changes. -/
def State.houseBlock (s : State) : Reference × Timeline × Timeline × Vector Port 8 × Device :=
  (s.reference, s.timelineA, s.timelineB, s.ports, s.device.quiet)

/-- What the Profile module changes. -/
def State.profileBlock (s : State) : Vector Profile 32 × Nat × Nat :=
  (s.profiles, s.loader.result.profileApplied, s.loader.result.profileRefused)

/-- What the Feed module changes. -/
def State.feedBlock (s : State) : Vector Feed 8 × Vector FeedPort 8 × SlotTable × Nat × Nat :=
  (s.feeds, s.feedPorts, s.slots, s.loader.result.feedApplied, s.loader.result.feedRefused)

/-- What no module changes but the openings may. -/
def State.openBlock (s : State) : RouteTable × Nat × List (PresetId × Status) :=
  (s.routes, s.loader.result.opened, s.loader.result.refusals)

/-- What no part of a load changes. -/
def State.keptBlock (s : State) :=
  (s.dram, s.monitor, s.cu, s.pending, { s.loader with stage := .none, result := LoaderResult.cleared })

theorem State.applyModule_houseBlock (m : ModuleId) (h : m ≠ .house) (s : State) :
    (s.applyModule m).houseBlock = s.houseBlock := by
  cases m with
  | house => exact absurd rfl h
  | track => rfl
  | profile =>
    obtain ⟨_, _, _, heq⟩ := s.applyProfiles_exists (s.loader.body .profile)
    exact (congrArg State.houseBlock heq :)
  | feed =>
    obtain ⟨_, _, _, _, _, heq⟩ := s.applyFeeds_exists (s.loader.body .feed)
    exact (congrArg State.houseBlock heq :)
  | preset => rfl

theorem State.applyModule_profileBlock (m : ModuleId) (h : m ≠ .profile) (s : State) :
    (s.applyModule m).profileBlock = s.profileBlock := by
  cases m with
  | house => rfl
  | track => rfl
  | profile => exact absurd rfl h
  | feed =>
    obtain ⟨_, _, _, _, _, heq⟩ := s.applyFeeds_exists (s.loader.body .feed)
    exact (congrArg State.profileBlock heq :)
  | preset => rfl

theorem State.applyModule_feedBlock (m : ModuleId) (h : m ≠ .feed) (s : State) :
    (s.applyModule m).feedBlock = s.feedBlock := by
  cases m with
  | house => rfl
  | track => rfl
  | profile =>
    obtain ⟨_, _, _, heq⟩ := s.applyProfiles_exists (s.loader.body .profile)
    exact (congrArg State.feedBlock heq :)
  | feed => exact absurd rfl h
  | preset => rfl

theorem State.applyModule_openBlock (m : ModuleId) (s : State) :
    (s.applyModule m).openBlock = s.openBlock := by
  cases m with
  | house => rfl
  | track => rfl
  | profile =>
    obtain ⟨_, _, _, heq⟩ := s.applyProfiles_exists (s.loader.body .profile)
    exact (congrArg State.openBlock heq :)
  | feed =>
    obtain ⟨_, _, _, _, _, heq⟩ := s.applyFeeds_exists (s.loader.body .feed)
    exact (congrArg State.openBlock heq :)
  | preset => rfl

theorem State.applyModule_keptBlock (m : ModuleId) (s : State) :
    (s.applyModule m).keptBlock = s.keptBlock := by
  cases m with
  | house => rfl
  | track => rfl
  | profile =>
    obtain ⟨_, _, _, heq⟩ := s.applyProfiles_exists (s.loader.body .profile)
    exact (congrArg State.keptBlock heq :)
  | feed =>
    obtain ⟨_, _, _, _, _, heq⟩ := s.applyFeeds_exists (s.loader.body .feed)
    exact (congrArg State.keptBlock heq :)
  | preset => rfl

theorem State.applyModule_trackK (m : ModuleId) (h : m ≠ .track) (s : State) :
    (s.applyModule m).trackK = s.trackK := by
  cases m with
  | house => rfl
  | track => exact absurd rfl h
  | profile =>
    obtain ⟨_, _, _, heq⟩ := s.applyProfiles_exists (s.loader.body .profile)
    exact (congrArg State.trackK heq :)
  | feed =>
    obtain ⟨_, _, _, _, _, heq⟩ := s.applyFeeds_exists (s.loader.body .feed)
    exact (congrArg State.trackK heq :)
  | preset => rfl

theorem State.applyModule_presets (m : ModuleId) (h : m ≠ .preset) (s : State) :
    (s.applyModule m).presets = s.presets := by
  cases m with
  | house => rfl
  | track => rfl
  | profile =>
    obtain ⟨_, _, _, heq⟩ := s.applyProfiles_exists (s.loader.body .profile)
    exact (congrArg State.presets heq :)
  | feed =>
    obtain ⟨_, _, _, _, _, heq⟩ := s.applyFeeds_exists (s.loader.body .feed)
    exact (congrArg State.presets heq :)
  | preset => exact absurd rfl h

/-! ## The openings (R168, R169) -/

theorem State.openPreset_of_some (s : State) (n : PresetId) (p : Preset) (h : tget s.presets n = some p) :
    s.openPreset n = (tryOpen p.request s).1.setResult
      (s.loader.result.addOpening n (tryOpen p.request s).2.status) := by
  unfold State.openPreset
  rw [h]

/-- What `n` openings may have made of the part `s` (R168, R170). -/
structure OpenedFrom (s t : State) (n : Nat) : Prop where
  state : t = { s with
    routes := t.routes, feeds := t.feeds, device := t.device
    loader := { s.loader with
      stage := t.loader.stage
      result := { s.loader.result with opened := t.loader.result.opened, refusals := t.loader.result.refusals } } }
  device : t.device.quiet = s.device.quiet
  feeds : ∀ f, t.feed f = { s.feed f with routeCount := (t.feed f).routeCount }
  count : t.loader.result.opened + t.loader.result.refusals.length =
    s.loader.result.opened + s.loader.result.refusals.length + n

theorem OpenedFrom.trans {s t u : State} {m n : Nat} (h : OpenedFrom s t m) (k : OpenedFrom t u n) :
    OpenedFrom s u (m + n) where
  state := k.state.trans (congrArg (fun t : State => { t with
    routes := u.routes, feeds := u.feeds, device := u.device
    loader := { t.loader with
      stage := u.loader.stage
      result := { t.loader.result with opened := u.loader.result.opened, refusals := u.loader.result.refusals } } })
    h.state)
  device := k.device.trans h.device
  feeds f := (k.feeds f).trans (congrArg (fun a : Feed => { a with routeCount := (u.feed f).routeCount }) (h.feeds f))
  count := by rw [k.count, h.count, Nat.add_assoc]

theorem OpenedFrom.partDone (s : State) (stage : LoadStage) : OpenedFrom s (s.partDone stage) 0 :=
  ⟨rfl, rfl, fun _ => rfl, rfl⟩

theorem State.openRoute_feed (s : State) (i : RouteId) (q : OpenRequest) (f : FeedId) :
    (s.openRoute i q).feed f = { s.feed f with routeCount := ((s.openRoute i q).feed f).routeCount } := by
  have h : (s.openRoute i q).feed f = if q.feedId = f then
      { s.feed q.feedId with routeCount := (s.feed q.feedId).routeCount + 1 } else s.feed f :=
    State.setFeed_feed s q.feedId f _
  rw [h]
  split
  · next heq => rw [← heq]
  · rfl

theorem tryOpen_feed (s : State) (q : OpenRequest) (f : FeedId) :
    (tryOpen q s).1.feed f = { s.feed f with routeCount := ((tryOpen q s).1.feed f).routeCount } := by
  unfold tryOpen
  split
  · exact s.openRoute_feed _ q f
  · rfl

theorem LoaderResult.addOpening_count (r : LoaderResult) (n : PresetId) (status : Status) :
    (r.addOpening n status).opened + (r.addOpening n status).refusals.length = r.opened + r.refusals.length + 1 ∧
      r.addOpening n status =
        { r with opened := (r.addOpening n status).opened, refusals := (r.addOpening n status).refusals } := by
  unfold LoaderResult.addOpening
  split
  · exact ⟨by dsimp only; omega, rfl⟩
  · exact ⟨by simp [Nat.add_assoc], rfl⟩

theorem OpenedFrom.openPreset (s : State) (n : PresetId) (p : Preset) (h : tget s.presets n = some p) :
    OpenedFrom s (s.openPreset n) 1 := by
  have htry := tryOpen_only p.request s
  have hfeeds := tryOpen_feed s p.request
  obtain ⟨hcount, hresult⟩ := s.loader.result.addOpening_count n (tryOpen p.request s).2.status
  rw [s.openPreset_of_some n p h]
  generalize (tryOpen p.request s).1 = x at htry hfeeds ⊢
  generalize s.loader.result.addOpening n (tryOpen p.request s).2.status = r at hcount hresult ⊢
  refine ⟨?_, ?_, hfeeds, hcount⟩
  · rw [htry, hresult]
    rfl
  · rw [htry]
    rfl

theorem OpenedFrom.openAll (l : List PresetId) (s : State) (h : ∀ n ∈ l, ∃ p, tget s.presets n = some p) :
    OpenedFrom s (openAll l s) l.length := by
  induction l generalizing s with
  | nil => exact ⟨rfl, rfl, fun _ => rfl, rfl⟩
  | cons n left ih =>
    obtain ⟨p, hp⟩ := h n (by simp)
    have hopen := (OpenedFrom.openPreset s n p hp).trans (OpenedFrom.partDone (s.openPreset n) (.opening left))
    have hpresets : ((s.openPreset n).partDone (.opening left)).presets = s.presets := by rw [hopen.state]
    have hleft := ih ((s.openPreset n).partDone (.opening left)) fun m hm => by
      rw [hpresets]
      exact h m (List.mem_cons_of_mem _ hm)
    have hall := hopen.trans hleft
    rw [List.length_cons, Nat.add_comm]
    exact hall

theorem openAll_stage (l : List PresetId) (s : State) (h : s.loader.stage = .opening l) :
    (openAll l s).loader.stage = .opening [] := by
  induction l generalizing s with
  | nil => exact h
  | cons n left ih => exact ih _ rfl

end Sys2Proof.Machine

/-! The load of an accepted image (R164 to R170): the end of a load, and the parts it is done in. -/

namespace Sys2Proof.Machine

/-! ## The part after the test of the sum and after the modules -/

/-- The part after the test of the sum of an accepted image (R164). -/
def State.tested (s : State) : State := (s.setResult LoaderResult.cleared).partDone (.applying s.loader.modules)

/-- The part after every module of an accepted image (R165). -/
def State.applied (s : State) : State := applyModules s.loader.modules s.tested

theorem Loader.modules_nodup (l : Loader) : l.modules.Nodup := by
  unfold Loader.modules
  split <;> decide

theorem Loader.body_of_bodies {l k : Loader} (h : l.bodies = k.bodies) (m : ModuleId) : l.body m = k.body m := by
  unfold Loader.body
  rw [h]

theorem State.applied_block {α : Type} (g : State → α) (m : ModuleId) (s : State) (hm : m ∈ s.loader.modules)
    (hdone : ∀ t st, g (t.partDone st) = g t) (hmodule : ∀ m', m' ≠ m → ∀ t, g (t.applyModule m') = g t) :
    ∃ x : State, g x = g s.tested ∧ x.loader.body m = s.loader.body m ∧ g s.applied = g (x.applyModule m) := by
  obtain ⟨x, hx, hbodies, happlied⟩ :=
    applyModules_block g m s.loader.modules s.tested hm s.loader.modules_nodup hdone hmodule
  exact ⟨x, hx, Loader.body_of_bodies hbodies m, happlied⟩

theorem State.mem_modules (s : State) (m : ModuleId) (h : m ≠ .house) : m ∈ s.loader.modules := by
  unfold Loader.modules
  split <;> cases m <;> simp_all

theorem State.house_mem_modules (s : State) : .house ∈ s.loader.modules ↔ s.loader.powerOn = true := by
  unfold Loader.modules
  split <;> simp_all

theorem State.applied_kept (s : State) :
    s.applied = { s with
      reference := s.applied.reference, timelineA := s.applied.timelineA, timelineB := s.applied.timelineB
      trackK := s.applied.trackK, feeds := s.applied.feeds, feedPorts := s.applied.feedPorts, slots := s.applied.slots
      routes := s.applied.routes, profiles := s.applied.profiles, ports := s.applied.ports
      presets := s.applied.presets, device := s.applied.device
      loader := { s.loader with stage := s.applied.loader.stage, result := s.applied.loader.result } } := by
  have h : s.applied.keptBlock = s.keptBlock :=
    applyModules_keeps State.keptBlock _ _ (fun _ _ => rfl) fun m _ t => t.applyModule_keptBlock m
  generalize s.applied = y at h ⊢
  unfold State.keptBlock at h
  obtain ⟨hdram, hmonitor, hcu, hpending, hloader⟩ := by simpa only [Prod.mk.injEq] using h
  obtain ⟨hpower, -, hheader, hbodies, hautostart, -⟩ := Loader.mk.inj hloader
  have hl : y.loader = { s.loader with stage := y.loader.stage, result := y.loader.result } := by
    dsimp only
    rw [← hpower, ← hheader, ← hbodies, ← hautostart]
  rw [← hl, ← hdram, ← hmonitor, ← hcu, ← hpending]

theorem State.applied_open (s : State) :
    s.applied.routes = s.routes ∧ s.applied.loader.result.opened = 0 ∧ s.applied.loader.result.refusals = [] := by
  have h : s.applied.openBlock = s.tested.openBlock :=
    applyModules_keeps State.openBlock _ _ (fun _ _ => rfl) fun m _ t => t.applyModule_openBlock m
  exact ⟨congrArg Prod.fst h, congrArg (fun x => x.2.1) h, congrArg (fun x => x.2.2) h⟩

/-! ## Each block after the modules -/

theorem State.applied_house (s : State) (h : s.loader.powerOn = true) :
    ∃ x : State, x.houseBlock = s.houseBlock ∧
      s.applied.houseBlock = (x.applyHouse (s.loader.body .house)).houseBlock := by
  obtain ⟨x, hx, hbody, happlied⟩ := s.applied_block State.houseBlock .house (s.house_mem_modules.2 h)
    (fun _ _ => rfl) fun m hm t => t.applyModule_houseBlock m hm
  exact ⟨x, hx, by rw [← hbody]; exact happlied⟩

theorem State.applied_notHouse (s : State) (h : s.loader.powerOn = false) :
    s.applied.houseBlock = s.houseBlock := by
  refine applyModules_keeps State.houseBlock _ s.tested (fun _ _ => rfl) fun m hm t => t.applyModule_houseBlock m ?_
  rintro rfl
  exact Bool.false_ne_true (h.symm.trans (s.house_mem_modules.1 hm))

theorem State.applied_track (s : State) : ∃ x : State, x.trackK = s.trackK ∧
    s.applied.trackK = (x.applyTrack (s.loader.body .track)).trackK := by
  obtain ⟨x, hx, hbody, happlied⟩ := s.applied_block State.trackK .track (s.mem_modules _ (by simp))
    (fun _ _ => rfl) fun m hm t => t.applyModule_trackK m hm
  exact ⟨x, hx, by rw [← hbody]; exact happlied⟩

theorem State.applied_presets (s : State) (n : PresetId) :
    tget s.applied.presets n = presetEntry (s.loader.body .preset) n.val := by
  obtain ⟨x, -, hbody, happlied⟩ := s.applied_block State.presets .preset (s.mem_modules _ (by simp))
    (fun _ _ => rfl) fun m hm t => t.applyModule_presets m hm
  rw [happlied, ← hbody]
  exact tget_ofFn _ _

theorem State.applied_profiles (s : State) : ∃ x : State,
    x.profileBlock = (s.profiles, 0, 0) ∧ s.applied.profileBlock =
      (x.applyProfiles (s.loader.body .profile)).profileBlock := by
  obtain ⟨x, hx, hbody, happlied⟩ := s.applied_block State.profileBlock .profile (s.mem_modules _ (by simp))
    (fun _ _ => rfl) fun m hm t => t.applyModule_profileBlock m hm
  exact ⟨x, hx, by rw [← hbody]; exact happlied⟩

theorem State.applied_feeds (s : State) : ∃ x : State,
    x.feedBlock = (s.feeds, s.feedPorts, s.slots, 0, 0) ∧ s.applied.feedBlock =
      (x.applyFeeds (s.loader.body .feed)).feedBlock := by
  obtain ⟨x, hx, hbody, happlied⟩ := s.applied_block State.feedBlock .feed (s.mem_modules _ (by simp))
    (fun _ _ => rfl) fun m hm t => t.applyModule_feedBlock m hm
  exact ⟨x, hx, by rw [← hbody]; exact happlied⟩

/-- The blocks of the House module after the modules, which a power-on load alone applies (R165). -/
theorem State.applied_houseFields (s : State) (house : List Word16) (hhouse : house = s.loader.body .house) :
    s.applied.reference =
        (if s.loader.powerOn then s.reference.setFamily (refFamilyOfCode (flashWord house 0)) else s.reference) ∧
      s.applied.timelineA =
        (if s.loader.powerOn then s.timelineA.setStandard (standardOfCode (flashWord house 1)) else s.timelineA) ∧
      s.applied.timelineB =
        (if s.loader.powerOn then s.timelineB.setStandard (standardOfCode (flashWord house 2)) else s.timelineB) ∧
      (∀ p, s.applied.port p =
        if s.loader.powerOn then (s.port p).setTimeline (timelineOfCode (flashWord house (3 + p.val)))
        else s.port p) ∧
      s.applied.device.quiet = Device.quiet { s.device with
        events := s.device.events ||| (if s.applied.reference.source = s.reference.source then 0 else 0x01) } := by
  subst hhouse
  by_cases hpower : s.loader.powerOn = true
  · obtain ⟨x, hx, happlied⟩ := s.applied_house hpower
    simp only [if_pos hpower]
    have hport := fun p => x.applyHouse_port (s.loader.body .house) p
    have hdevice := congrArg Device.quiet (x.applyHouse_device (s.loader.body .house))
    have hreference : (x.applyHouse (s.loader.body .house)).reference =
      x.reference.setFamily (refFamilyOfCode (flashWord (s.loader.body .house) 0)) := rfl
    have hA : (x.applyHouse (s.loader.body .house)).timelineA =
      x.timelineA.setStandard (standardOfCode (flashWord (s.loader.body .house) 1)) := rfl
    have hB : (x.applyHouse (s.loader.body .house)).timelineB =
      x.timelineB.setStandard (standardOfCode (flashWord (s.loader.body .house) 2)) := rfl
    generalize x.applyHouse (s.loader.body .house) = z at happlied hport hdevice hreference hA hB
    generalize s.applied = y at happlied ⊢
    unfold State.houseBlock at happlied hx
    obtain ⟨yref, yA, yB, yports, ydevice⟩ := by simpa only [Prod.mk.injEq] using happlied
    obtain ⟨xref, xA, xB, xports, xdevice⟩ := by simpa only [Prod.mk.injEq] using hx
    refine ⟨by rw [yref, hreference, xref], by rw [yA, hA, xA], by rw [yB, hB, xB], fun p => ?_, ?_⟩
    · unfold State.port at hport ⊢
      rw [yports, hport, xports]
    · rw [ydevice, hdevice, yref, xref]
      unfold Device.quiet at xdevice ⊢
      obtain ⟨hevents, hretired, hroute, hfeed, hmask, henable, -, -⟩ := Device.mk.inj xdevice
      rw [hevents, hretired, hroute, hfeed, hmask, henable]
  · have happlied := s.applied_notHouse (Bool.eq_false_iff.2 hpower)
    simp only [if_neg hpower]
    generalize s.applied = y at happlied ⊢
    unfold State.houseBlock at happlied
    obtain ⟨yref, yA, yB, yports, ydevice⟩ := by simpa only [Prod.mk.injEq] using happlied
    refine ⟨yref, yA, yB, fun p => ?_, ?_⟩
    · unfold State.port
      rw [yports]
    · rw [ydevice, yref, if_pos rfl]
      simp

theorem State.applied_profile (s : State) (body : List Word16) (hbody : body = s.loader.body .profile) :
    (∀ i, (∀ n, n < body.length / 19 → flashWord body (19 * n) = i.val →
        profileWriteStatus (profileEntry body n) ≠ .ok) → s.applied.profile i = s.profile i) ∧
      (∀ i n, n < body.length / 19 → flashWord body (19 * n) = i.val →
        profileWriteStatus (profileEntry body n) = .ok →
        (∀ k, n < k → k < body.length / 19 → flashWord body (19 * k) = i.val →
          profileWriteStatus (profileEntry body k) ≠ .ok) →
        s.applied.profile i = (profileEntry body n).contents) ∧
      s.applied.loader.result.profileApplied =
        (List.range (body.length / 19)).countP (fun n => profileWriteStatus (profileEntry body n) == .ok) ∧
      s.applied.loader.result.profileRefused =
        (List.range (body.length / 19)).countP (fun n => profileWriteStatus (profileEntry body n) != .ok) := by
  subst hbody
  obtain ⟨x, hx, happlied⟩ := s.applied_profiles
  have hprofile := x.applyProfiles_profile (s.loader.body .profile)
  have hresult := x.profilesAfter_result (s.loader.body .profile) ((s.loader.body .profile).length / 19)
  rw [← State.applyProfiles_eq] at hresult
  generalize x.applyProfiles (s.loader.body .profile) = z at happlied hprofile hresult
  generalize s.applied = y at happlied ⊢
  unfold State.profileBlock at happlied hx
  obtain ⟨ytable, yapplied, yrefused⟩ := by simpa only [Prod.mk.injEq] using happlied
  obtain ⟨xtable, xapplied, xrefused⟩ := by simpa only [Prod.mk.injEq] using hx
  unfold State.profile at hprofile ⊢
  rw [ytable, yapplied, yrefused, hresult, xapplied, xrefused, ← xtable]
  exact ⟨fun i => (hprofile i).1, fun i => (hprofile i).2, Nat.zero_add _, Nat.zero_add _⟩

theorem State.applied_feed (s : State) (f : FeedId) :
    ∃ x : State, x.feed f = s.feed f ∧ x.feedPort f = s.feedPort f ∧
      s.applied.feed f = (x.applyFeedEntry (s.loader.body .feed) f.val).feed f ∧
      s.applied.feedPort f = (x.applyFeedEntry (s.loader.body .feed) f.val).feedPort f := by
  obtain ⟨x, hx, happlied⟩ := s.applied_feeds
  obtain ⟨z, hfeed, hport, hafter, hportAfter⟩ := x.applyFeeds_feed (s.loader.body .feed) f
  generalize x.applyFeeds (s.loader.body .feed) = w at happlied hafter hportAfter
  generalize s.applied = y at happlied ⊢
  unfold State.feedBlock at happlied hx
  obtain ⟨yfeeds, yports, -⟩ := by simpa only [Prod.mk.injEq] using happlied
  obtain ⟨xfeeds, xports, -⟩ := by simpa only [Prod.mk.injEq] using hx
  refine ⟨z, hfeed.trans ?_, hport.trans ?_, Eq.trans ?_ hafter, Eq.trans ?_ hportAfter⟩
  · unfold State.feed
    rw [xfeeds]
  · unfold State.feedPort
    rw [xports]
  · unfold State.feed
    rw [yfeeds]
  · unfold State.feedPort
    rw [yports]

theorem State.applied_feedCounts (s : State) (body : List Word16) (hbody : body = s.loader.body .feed) :
    s.applied.loader.result.feedApplied + s.applied.loader.result.feedRefused = (List.range 8).countP
        (fun f => decide (5 * f + 5 ≤ body.length) && decide (flashWord body (5 * f) ≠ 0xFFFF)) ∧
      ((∀ f, s.feed f = Feed.reset) → s.applied.slots = s.slots ∧
        s.applied.loader.result.feedApplied = (List.range 8).countP
          (fun f => decide (5 * f + 5 ≤ body.length) && feedEntryChecks body f == .ok)) := by
  subst hbody
  obtain ⟨x, hx, happlied⟩ := s.applied_feeds
  obtain ⟨applied, refused, hresult, hcount⟩ := x.feedsAfter_result (s.loader.body .feed) 8
  have hreset := fun h => x.feedsAfter_of_reset (s.loader.body .feed) h 8 (le_refl 8)
  rw [← State.applyFeeds_eq] at hresult hreset
  generalize x.applyFeeds (s.loader.body .feed) = w at happlied hresult hreset
  generalize s.applied = y at happlied ⊢
  unfold State.feedBlock at happlied hx
  obtain ⟨yfeeds, yports, yslots, yapplied, yrefused⟩ := by simpa only [Prod.mk.injEq] using happlied
  obtain ⟨xfeeds, xports, xslots, xapplied, xrefused⟩ := by simpa only [Prod.mk.injEq] using hx
  refine ⟨?_, fun h => ?_⟩
  · rw [yapplied, yrefused, hresult, ← hcount, xapplied, xrefused]
    dsimp only
    omega
  · obtain ⟨hslots, happ⟩ := hreset fun f => by
      unfold State.feed at h ⊢
      rw [xfeeds]
      exact h f
    rw [yslots, yapplied, hslots, happ, xslots, xapplied, Nat.zero_add]
    exact ⟨rfl, rfl⟩

/-! ## The load's end -/

theorem State.restOfLoad_accepted (s : State) (hstage : s.loader.stage = .complete) (hsum : s.loader.sum = 0x6D2B) :
    s.restOfLoad = openAll s.applied.openingOrder s.applied.beginOpenings := by
  unfold State.restOfLoad State.testImage
  rw [if_pos hstage, if_pos hsum]
  exact applyAll_eq s.loader.modules s.tested

theorem State.openingOrder_some (s : State) (n : PresetId) (h : n ∈ s.openingOrder) :
    ∃ p, tget s.presets n = some p := by
  unfold State.openingOrder at h
  split at h
  · obtain ⟨p, hp, -⟩ := (mem_autostartOrder s.presets n).1 h
    exact ⟨p, hp⟩
  · exact absurd h List.not_mem_nil

theorem State.restOfLoad_opened (s : State) (hstage : s.loader.stage = .complete) (hsum : s.loader.sum = 0x6D2B) :
    OpenedFrom s.applied s.restOfLoad s.applied.openingOrder.length ∧ s.restOfLoad.loader.stage = .opening [] := by
  rw [s.restOfLoad_accepted hstage hsum]
  refine ⟨?_, openAll_stage _ _ rfl⟩
  have hopen := (OpenedFrom.partDone s.applied (.opening s.applied.openingOrder)).trans
    (OpenedFrom.openAll s.applied.openingOrder s.applied.beginOpenings fun n hn => s.applied.openingOrder_some n hn)
  rw [Nat.zero_add] at hopen
  exact hopen

theorem State.restOfLoad_routes (s : State) (hstage : s.loader.stage = .complete) (hsum : s.loader.sum = 0x6D2B)
    (h : s.loader.autostart = false) : s.restOfLoad.routes = s.routes ∧
      s.restOfLoad.loader.result.opened = 0 ∧ s.restOfLoad.loader.result.refusals = [] := by
  have horder : s.applied.openingOrder = [] := by
    unfold State.openingOrder
    rw [if_neg]
    rw [s.applied_kept]
    exact Bool.eq_false_iff.1 h
  rw [s.restOfLoad_accepted hstage hsum, horder]
  exact s.applied_open

/-- The end of a load that comes to its openings: what is left is to conclude it (R170, R10, R151). -/
theorem State.endLoad_of_opened (s r t : State) (tick : Tick) (cu : CommandUnit) (hr : s.restOfLoad = r)
    (hstage : r.loader.stage = .opening []) (hcu : cu = { r.cu with state := .idle })
    (ht : t = (s.endLoad tick).notify) :
    t = { r with
        timelineA := if s.loader.powerOn then r.timelineA.start tick else r.timelineA
        timelineB := if s.loader.powerOn then r.timelineB.start tick else r.timelineB
        cu := cu.settle cu.judge, loader := r.loader.finish r.loader.doneResult, device := t.device } ∧
      t.device = { r.device with
        events := (cu.judge.raises (r.device.raise .loadDone)).events
        summary := t.device.summary, line := t.device.line } ∧ t.SummaryOk := by
  have hconclude : r.concludeLoad =
      { r with loader := r.loader.finish r.loader.doneResult, device := r.device.raise .loadDone } := by
    unfold State.concludeLoad
    rw [hstage]
  have hconcluded : s.concluded tick =
      { r with
        timelineA := if s.loader.powerOn then r.timelineA.start tick else r.timelineA
        timelineB := if s.loader.powerOn then r.timelineB.start tick else r.timelineB
        loader := r.loader.finish r.loader.doneResult, device := r.device.raise .loadDone } := by
    unfold State.concluded
    rw [hr, hconclude]
    split <;> rfl
  obtain ⟨hstate, hdevice, hsummary⟩ := s.endLoad_notified _ t tick cu hconcluded hcu ht
  exact ⟨hstate, hdevice, hsummary⟩

end Sys2Proof.Machine

/-! The load of an accepted image, whole and part by part (R164 to R170). -/

namespace Sys2Proof.Machine

/-- A load's end, with what it comes to. -/
theorem State.endLoad_accepted (s t : State) (tick : Tick) (cu : CommandUnit) (hstage : s.loader.stage = .complete)
    (hsum : s.loader.sum = 0x6D2B) (hcu : cu = { s.cu with state := .idle }) (ht : t = (s.endLoad tick).notify) :
    ∃ d : Device, d.quiet = s.applied.device.quiet ∧
    t = { s.applied with
      timelineA := if s.loader.powerOn then s.applied.timelineA.start tick else s.applied.timelineA
      timelineB := if s.loader.powerOn then s.applied.timelineB.start tick else s.applied.timelineB
      routes := t.routes, feeds := t.feeds, cu := cu.settle cu.judge, device := t.device
      loader := { s.loader with
        stage := .none, header := [], bodies := []
        result := { s.applied.loader.result with
          outcome := .done, cause := none, version := s.loader.header[1]?, modules := s.loader.bodies.map Prod.fst
          autostart := s.loader.autostart
          opened := t.loader.result.opened, refusals := t.loader.result.refusals } } } ∧
    (∀ f, t.feed f = { s.applied.feed f with routeCount := (t.feed f).routeCount }) ∧
    t.device = { d with
      events := (cu.judge.raises (d.raise .loadDone)).events
      summary := t.device.summary, line := t.device.line } ∧ t.SummaryOk ∧
    t.loader.result.opened + t.loader.result.refusals.length = s.applied.openingOrder.length ∧
    (s.loader.autostart = false →
      t.routes = s.routes ∧ t.loader.result.opened = 0 ∧ t.loader.result.refusals = []) := by
  obtain ⟨⟨hrest, hquiet, hfeeds, hcount⟩, hlast⟩ := s.restOfLoad_opened hstage hsum
  have hroutes := s.restOfLoad_routes hstage hsum
  have hkept := s.applied_kept
  obtain ⟨-, hopened, hrefusals⟩ := s.applied_open
  generalize hr : s.restOfLoad = r at hrest hquiet hfeeds hcount hlast hroutes
  generalize s.applied = y at hkept hrest hquiet hfeeds hcount hopened hrefusals ⊢
  have hloader : r.loader.finish r.loader.doneResult =
      { s.loader with
        stage := .none, header := [], bodies := []
        result := { y.loader.result with
          outcome := .done, cause := none, version := s.loader.header[1]?, modules := s.loader.bodies.map Prod.fst
          autostart := s.loader.autostart
          opened := r.loader.result.opened, refusals := r.loader.result.refusals } } := by
    have himage := (congrArg State.loader hrest).trans (congrArg (fun l : Loader => { l with
      stage := r.loader.stage
      result := { y.loader.result with opened := r.loader.result.opened, refusals := r.loader.result.refusals } })
      (congrArg State.loader hkept))
    exact (congrArg (fun l : Loader => l.finish l.doneResult) himage).trans rfl
  have hycu : y.cu = s.cu := (congrArg State.cu hkept :)
  have hrcu : r.cu = y.cu := (congrArg State.cu hrest :)
  obtain ⟨hstate, hdevice, hsummary⟩ := s.endLoad_of_opened r t tick cu hr hlast (by rw [hcu, hrcu, hycu]) ht
  have hsame : t.routes = r.routes ∧ t.feeds = r.feeds ∧ t.loader.result.opened = r.loader.result.opened ∧
      t.loader.result.refusals = r.loader.result.refusals := by
    rw [hstate, hloader]
    exact ⟨rfl, rfl, rfl, rfl⟩
  obtain ⟨htroutes, htfeeds, htopened, htrefusals⟩ := hsame
  have hfeed : ∀ f, t.feed f = r.feed f := fun f => by
    unfold State.feed
    rw [htfeeds]
  rw [htroutes, htfeeds, htopened, htrefusals, ← hloader]
  refine ⟨r.device, hquiet, ?_, fun f => ?_, hdevice, hsummary, ?_, hroutes⟩
  · exact hstate.trans (congrArg (fun x : State => { x with
      timelineA := if s.loader.powerOn then x.timelineA.start tick else x.timelineA
      timelineB := if s.loader.powerOn then x.timelineB.start tick else x.timelineB
      cu := cu.settle cu.judge, loader := r.loader.finish r.loader.doneResult, device := t.device }) hrest)
  · rw [hfeed]
    exact hfeeds f
  · rw [hcount, hopened, hrefusals]
    exact Nat.zero_add _

theorem profileEntry_contents (body : List Word16) (n : Nat) :
    (profileEntry body n).contents = if flashWord body (19 * n + 1) = 1 then .snap
      else .curve ((List.range 17).map (fun k => flashWord body (19 * n + 2 + k))) := by
  unfold ProfileRequest.contents
  rfl

theorem Reference.setFamily_of_load (s : State) (house : List Word16) (family : RefFamily)
    (h : family = (if s.loader.powerOn then (refFamilyOfCode (flashWord house 0)).getD s.reference.family
      else s.reference.family)) :
    (if s.loader.powerOn then s.reference.setFamily (refFamilyOfCode (flashWord house 0)) else s.reference) =
      if family = s.reference.family then s.reference
      else { s.reference with
        family := family, lastPulse := none, goodRun := 0
        source := if s.reference.source = .locked ∧ s.reference.mode = .auto then .internal
          else if s.reference.source = .locked ∧ s.reference.mode = .manualExternal then .holdover
          else s.reference.source } := by
  by_cases hpower : s.loader.powerOn = true
  · rw [if_pos hpower] at h ⊢
    exact s.reference.setFamily_eq _ family h
  · rw [if_neg hpower] at h ⊢
    rw [if_pos h]

/-- What the end of a load leaves of the device scope (R170, R161). -/
theorem Device.of_quiet (d given : Device) (added : BitVec 5) (e : Evaluation) (summary : Word) (line : Bool)
    (h : d.quiet = Device.quiet { given with events := given.events ||| added }) :
    { d with events := (e.raises (d.raise .loadDone)).events, summary := summary, line := line } =
      { given with
        events := (e.raises { given with events := given.events ||| added ||| 0x04 }).events
        summary := summary, line := line } := by
  unfold Device.quiet at h
  obtain ⟨hevents, hretired, hroute, hfeed, hmask, henable, -, -⟩ := Device.mk.inj h
  have hraised : (e.raises (d.raise .loadDone)).events =
      (e.raises { given with events := given.events ||| added ||| 0x04 }).events := by
    cases e <;> simp only [Evaluation.raises, Device.raise, hevents] <;> rfl
  rw [hraised, hretired, hroute, hfeed, hmask, henable]

/-! ## The parts of a load (R164 to R169; the model's, logs 4 and 15) -/

theorem State.loadPart_keptBlock (s : State) : s.loadPart.keptBlock = s.keptBlock := by
  unfold State.loadPart
  split
  · unfold State.testImage
    split <;> rfl
  · next m left h => exact s.applyModule_keptBlock m
  · rfl
  · next n left h =>
    have hopen := s.openPreset_only n
    generalize s.openPreset n = x at hopen ⊢
    rw [hopen]
    rfl
  all_goals rfl

/-- A part of a load is done while the load is past its reading. -/
theorem State.loadPart_readingDone (s : State) :
    s.loadPart = s ∨ (s.loader.readingDone = true ∧ s.loadPart.loader.readingDone = true) := by
  unfold State.loadPart
  split
  · next h =>
    refine .inr ⟨by unfold Loader.readingDone; rw [h], ?_⟩
    unfold State.testImage
    by_cases hsum : s.loader.sum = 0x6D2B
    · rw [if_pos hsum]
      rfl
    · rw [if_neg hsum]
      rfl
  · next m left h => exact .inr ⟨by unfold Loader.readingDone; rw [h], rfl⟩
  · next h => exact .inr ⟨by unfold Loader.readingDone; rw [h], rfl⟩
  · next n left h => exact .inr ⟨by unfold Loader.readingDone; rw [h], rfl⟩
  all_goals exact .inl rfl

/-- The end of a load comes to what it comes to without the part done before it. -/
theorem exec_loadEnd_loadPart (s : State) (tick : Tick) : exec (.loadEnd tick) s.loadPart = exec (.loadEnd tick) s := by
  rcases s.loadPart_readingDone with h | ⟨hdone, hpart⟩
  · rw [h]
  · have hpower : s.loadPart.loader.powerOn = s.loader.powerOn :=
      congrArg (fun x => x.2.2.2.2.powerOn) s.loadPart_keptBlock
    have hend : s.loadPart.endLoad tick = s.endLoad tick := by
      rw [State.endLoad_eq, State.endLoad_eq]
      unfold State.concluded
      rw [s.restOfLoad_loadPart, hpower]
    rw [exec_loadEnd_done s tick hdone, exec_loadEnd_done s.loadPart tick hpart, hend]

/-- The test of the sum as a part of its own (R164). -/
theorem State.loadPart_complete (s u : State) (hu : u = s.loadPart) (h : s.loader.stage = .complete) :
    u = { s with loader := u.loader, device := u.device } ∧ Notified s u s.device.events ∧
      u.loader =
        (if s.loader.sum = 0x6D2B then
          { s.loader with
            result := LoaderResult.cleared
            stage := .applying (if s.loader.powerOn then [.house, .track, .profile, .feed, .preset]
              else [.track, .profile, .feed, .preset]) }
         else { s.loader with stage := .stopped .checksum }) := by
  have htest : u = s.testImage := by
    rw [hu]
    unfold State.loadPart
    rw [h]
  subst htest
  unfold State.testImage
  by_cases hsum : s.loader.sum = 0x6D2B
  · rw [if_pos hsum, if_pos hsum]
    obtain ⟨hdevice, hsummary⟩ := State.partDone_notified (s.setResult LoaderResult.cleared)
      (.applying s.loader.modules)
    exact ⟨rfl, ⟨hdevice, hsummary⟩, rfl⟩
  · rw [if_neg hsum, if_neg hsum]
    exact ⟨rfl, State.partDone_notified s _, rfl⟩

/-- A module as a part of its own changes its own block alone (R165). -/
theorem State.loadPart_module (s u : State) (hu : u = s.loadPart) (m : ModuleId) (left : List ModuleId)
    (h : s.loader.stage = .applying (m :: left)) :
    u = (s.applyModule m).partDone (.applying left) ∧
      u.loader = { s.loader with stage := .applying left, result := u.loader.result } := by
  have hmodule : u = (s.applyModule m).partDone (.applying left) := by
    rw [hu]
    unfold State.loadPart
    rw [h]
  refine ⟨hmodule, ?_⟩
  have hkept := (congrArg (fun x => x.2.2.2.2) (s.applyModule_keptBlock m) :)
  unfold State.keptBlock at hkept
  obtain ⟨hpower, -, hheader, hbodies, hautostart, -⟩ := Loader.mk.inj hkept
  have hloader : (s.applyModule m).loader =
      { s.loader with stage := (s.applyModule m).loader.stage, result := (s.applyModule m).loader.result } := by
    dsimp only
    rw [← hpower, ← hheader, ← hbodies, ← hautostart]
  rw [hmodule]
  exact congrArg (fun l : Loader => { l with stage := .applying left }) hloader

theorem State.applyHouse_timeline (s : State) (body : List Word16) (v : TimelineId) (w : Nat)
    (h : (v = .a ∧ w = 1) ∨ (v = .b ∧ w = 2)) :
    (s.applyHouse body).timeline v = (s.timeline v).setStandard (standardOfCode (flashWord body w)) := by
  rcases h with ⟨rfl, rfl⟩ | ⟨rfl, rfl⟩ <;> rfl

theorem State.loadPart_beginOpenings (s u : State) (hu : u = s.loadPart) (h : s.loader.stage = .applying []) :
    u = { s with loader := { s.loader with stage := .opening s.openingOrder }, device := u.device } ∧
      Notified s u s.device.events := by
  have hbegin : u = s.beginOpenings := by
    rw [hu]
    unfold State.loadPart
    rw [h]
  rw [hbegin]
  exact ⟨rfl, State.partDone_notified s _⟩

/-- An open asks nothing of the Command Unit and the device scope and leaves both (R58, R59). -/
theorem tryOpen_at (q : OpenRequest) (s : State) (cu : CommandUnit) (device : Device) :
    tryOpen q { s with cu := cu, device := device } =
      ({ (tryOpen q s).1 with cu := cu, device := device }, (tryOpen q s).2) := by
  have hstatus : openStatus { s with cu := cu, device := device } q = openStatus s q := rfl
  have hfree : State.freeRecord { s with cu := cu, device := device } = s.freeRecord := rfl
  unfold tryOpen
  rw [hstatus, hfree]
  split <;> rfl

/-- An opening as a part of its own does what a PRESET_OPEN of the preset does (R168, R169). -/
theorem State.loadPart_opening (s u : State) (hu : u = s.loadPart) (n : PresetId) (left : List PresetId) (p : Preset)
    (h : s.loader.stage = .opening (n :: left)) (hp : tget s.presets n = some p) :
    Notified s u s.device.events ∧
      u = { s with
        routes := (tryOpen p.request s).1.routes, feeds := (tryOpen p.request s).1.feeds, loader := u.loader
        device := u.device } ∧
      u.loader = { s.loader with
        stage := .opening left, result := s.loader.result.addOpening n (tryOpen p.request s).2.status } := by
  have hopening : u = (s.openPreset n).partDone (.opening left) := by
    rw [hu]
    unfold State.loadPart
    rw [h]
  have honly := tryOpen_only p.request s
  rw [hopening, s.openPreset_of_some n p hp]
  generalize (tryOpen p.request s).1 = x at honly ⊢
  generalize s.loader.result.addOpening n (tryOpen p.request s).2.status = r
  obtain ⟨hdevice, hsummary⟩ := (x.setResult r).partDone_notified (.opening left)
  refine ⟨⟨?_, hsummary⟩, ?_, ?_⟩
  · generalize ((x.setResult r).partDone (.opening left)).device = d at hdevice ⊢
    rw [hdevice, honly]
    rfl
  · rw [honly]
    rfl
  · rw [honly]
    rfl

theorem tryOpen_payload (q : OpenRequest) (s : State) : (tryOpen q s).2.payload.length ≤ 1 := by
  unfold tryOpen
  split
  · exact le_refl 1
  · exact Nat.zero_le 1

/-! ## The obligation -/

/-- Settles O49: a load's end by `State.endLoad_accepted`, each block as its module leaves it; the parts by the
stage. -/
theorem acceptedLoadsApplyTheModules : Obligations.AcceptedLoadsApplyTheModules := by
  refine ⟨fun s tick cu house track profile feed preset family standardA standardB points written configured hstage hsum
    hhouse htrack hprofile hfeed hpreset hfamily hA hB hpoints hwritten hconfigured hcu => ?_,
    fun s tick u hempty hstep => ?_⟩
  · have hdone : s.loader.readingDone = true := by
      unfold Loader.readingDone
      rw [hstage]
    refine ⟨_, exec_loadEnd_done s tick hdone, ?_⟩
    obtain ⟨d, hquiet, ht, hfeeds, hdevice, hsummary, hcount, hroutes⟩ :=
      s.endLoad_accepted _ tick cu hstage hsum hcu rfl
    generalize (s.endLoad tick).notify = t at ht hfeeds hdevice hsummary hcount hroutes
    have hkept := s.applied_kept
    obtain ⟨yreference, yA, yB, yport, ydevice⟩ := s.applied_houseFields house hhouse
    obtain ⟨x, xtrack, ytrack⟩ := s.applied_track
    rw [← htrack] at ytrack
    obtain ⟨ynone, ylast, yapplied, yrefused⟩ := s.applied_profile profile hprofile
    have yfeed := s.applied_feed
    rw [← hfeed] at yfeed
    obtain ⟨yfeedCount, yfeedReset⟩ := s.applied_feedCounts feed hfeed
    have ypresets := s.applied_presets
    rw [← hpreset] at ypresets
    have yautostart : s.applied.loader.autostart = s.loader.autostart :=
      (congrArg (fun t : State => t.loader.autostart) hkept :)
    have yorder : s.applied.openingOrder = if s.loader.autostart then autostartOrder s.applied.presets else [] := by
      rw [← yautostart]
      rfl
    rw [yorder] at hcount
    have hchecks : ∀ n, written n = profileWriteStatus (profileEntry profile n) := fun n => by
      rw [hwritten, profileEntry_status, hpoints]
    have hentries : ∀ f, configured f = feedEntryChecks feed f := hconfigured
    generalize s.applied = y at *
    have hfields : t.reference = y.reference ∧ t.trackK = y.trackK ∧ (∀ p, t.port p = y.port p) ∧
        (∀ i, t.profile i = y.profile i) ∧ (∀ f, t.feedPort f = y.feedPort f) ∧ t.presets = y.presets ∧
        t.slots = y.slots := by
      rw [ht]
      exact ⟨rfl, rfl, fun _ => rfl, fun _ => rfl, fun _ => rfl, rfl, rfl⟩
    obtain ⟨treference, ttrack, tport, tprofile, tfeedPort, tpresets, tslots⟩ := hfields
    have tresult := (congrArg (fun t : State => t.loader.result) ht :)
    refine ⟨?_, ?_, ?_, ?_, fun p => ?_, fun k => ?_, fun i h => ?_, fun i n hn hi hok hlater => ?_, fun f h => ?_,
      fun f st hlength hok hst hreset => ?_, fun n => ?_, hroutes, fun h => ?_, ?_, fun h => ?_, ?_, hsummary⟩
    · have hdram : t.dram = s.dram := (congrArg State.dram ht :).trans (congrArg State.dram hkept :)
      have hmonitor : t.monitor = s.monitor := (congrArg State.monitor ht :).trans (congrArg State.monitor hkept :)
      have hpending : t.pending = s.pending := (congrArg State.pending ht :).trans (congrArg State.pending hkept :)
      have htcu : t.cu = cu.settle cu.judge := (congrArg State.cu ht :)
      have hloader : t.loader =
          { s.loader with stage := .none, header := [], bodies := [], result := t.loader.result } := by
        rw [tresult]
        exact (congrArg State.loader ht :)
      rw [← hdram, ← hmonitor, ← hpending, ← htcu, ← hloader]
    · rw [treference, yreference]
      exact Reference.setFamily_of_load s house family hfamily
    · rw [(congrArg State.timelineA ht :), yA]
      dsimp only
      split
      · exact Timeline.setStandard_start _ _ standardA tick hA
      · rfl
    · rw [(congrArg State.timelineB ht :), yB]
      dsimp only
      split
      · exact Timeline.setStandard_start _ _ standardB tick hB
      · rfl
    · rw [tport, yport]
      split <;> rfl
    · rw [ttrack, ytrack, State.applyTrack_trackK, xtrack]
    · rw [tprofile]
      refine ynone i fun n hn hi => ?_
      rw [← hchecks]
      exact h n hn hi
    · rw [tprofile, ylast i n hn hi (by rw [← hchecks]; exact hok) fun k hk hkN hki => by
        rw [← hchecks]
        exact hlater k hk hkN hki, profileEntry_contents, hpoints]
    · obtain ⟨x, xfeed, xport, yfeed, yfeedPort⟩ := yfeed f
      have hleft : ¬FeedEntryPresent feed f.val ∨ feedEntryChecks feed f.val ≠ .ok := by
        rw [← hentries]
        rcases h with h | h | h
        · exact .inl fun hp => Nat.not_lt.2 hp.1 h
        · exact .inl fun hp => hp.2 h
        · exact .inr h
      obtain ⟨hf, hport⟩ := x.applyFeedEntry_left feed f hleft
      refine ⟨(hfeeds f).trans ?_, ?_⟩
      · rw [yfeed, hf, xfeed]
      · rw [tfeedPort, yfeedPort, hport, xport]
    · obtain ⟨x, xfeed, xport, yfeed, yfeedPort⟩ := yfeed f
      obtain ⟨hf, hport, -⟩ := x.applyFeedEntry_reset feed f st hlength (by rw [← hentries]; exact hok) hst
        (xfeed.trans hreset)
      refine ⟨(hfeeds f).trans ?_, ?_⟩
      · rw [yfeed, hf, xfeed]
      · rw [tfeedPort, yfeedPort, hport, xport]
    · rw [tpresets, ypresets]
      unfold presetEntry
      by_cases hp : 35 * n.val + 35 ≤ preset.length ∧ flashWord preset (35 * n.val) ≠ 65535
      · rw [if_pos hp, if_neg]
        omega
      · rw [if_neg hp, if_pos]
        omega
    · rw [hcount, if_pos h, tpresets]
      refine length_autostartOrder _ fun n p hp => ?_
      rw [ypresets] at hp
      unfold presetEntry at hp
      split at hp
      · rw [← Option.some.inj hp]
        exact (presetOfFlash_ok preset (35 * n.val)).1
      · exact absurd hp (Option.some_ne_none p).symm
    · rw [tresult]
      simpa only [hchecks, true_and] using ⟨yapplied, yrefused, yfeedCount⟩
    · obtain ⟨hslots, happlied⟩ := yfeedReset h
      simp only [hentries]
      rw [tslots, tresult]
      exact ⟨hslots, happlied⟩
    · rw [treference]
      exact hdevice.trans (Device.of_quiet _ _ _ _ _ _ (hquiet.trans ydevice))
  · have hu : u = s.loadPart := by
      unfold step at hstep
      rw [hempty] at hstep
      exact (Host.Outcome.next.inj hstep).symm
    refine ⟨by rw [hu]; exact exec_loadEnd_loadPart s tick, s.loadPart_complete u hu, fun m left hs => ?_,
      fun hs => ?_, fun n left p hs hp => ?_⟩
    · obtain ⟨hm, hloader⟩ := s.loadPart_module u hu m left hs
      refine ⟨hloader, ?_, ?_, ?_, ?_, ?_⟩ <;> rintro rfl
      · refine ⟨by rw [hm]; rfl, fun v w _ hvw => ?_⟩
        have htimeline : u.timeline v = (s.timeline v).setStandard
            (standardOfCode (flashWord (s.loader.body .house) w)) := by
          rw [hm]
          exact s.applyHouse_timeline (s.loader.body .house) v w hvw
        refine ⟨fun hnone => ?_, fun st hst => ?_⟩
        · rw [htimeline, hnone]
          rfl
        · rw [htimeline, hst]
          rfl
      · rw [hm]
        rfl
      · obtain ⟨table, applied, refused, h⟩ := s.applyProfiles_exists (s.loader.body .profile)
        have hstate : s.applyModule .profile = _ := h
        rw [hm, hstate]
        rfl
      · obtain ⟨feeds, ports, slots, applied, refused, h⟩ := s.applyFeeds_exists (s.loader.body .feed)
        have hstate : s.applyModule .feed = _ := h
        rw [hm, hstate]
        rfl
      · rw [hm]
        rfl
    · obtain ⟨hstate, hnotified⟩ := s.loadPart_beginOpenings u hu hs
      refine ⟨s.openingOrder, hstate, hnotified, fun n => ?_, ?_⟩
      · unfold State.openingOrder
        split
        · next h => rw [mem_autostartOrder, and_iff_right h]
        · next h => simp [h]
      · unfold State.openingOrder
        split
        · exact autostartOrder_sorted s.presets
        · exact List.Pairwise.nil
    · obtain ⟨hnotified, hstate, hloader⟩ := s.loadPart_opening u hu n left p hs hp
      refine ⟨hnotified, fun v c hv hdue hkind hn => ?_⟩
      have hpreset : tget v.presets (Fin.ofNat 16 (bits (arg c.args 1) 0 8)) = some p := by
        rw [hn, Fin.ofNat_val_eq_self, hv]
        exact hp
      have htry : tryOpen p.request v =
          ({ (tryOpen p.request s).1 with cu := v.cu, device := v.device }, (tryOpen p.request s).2) := by
        rw [hv]
        exact tryOpen_at p.request s v.cu v.device
      have heffect := (presetOpen_of_some c.args v p (by rw [hn]; exact n.isLt) hpreset).trans htry
      obtain ⟨x, hexec, hx, htaken⟩ :=
        take_spec_changed .presetOpen presetOpen v _ c _ (exec_presetOpen v) hdue hkind heffect rfl
      refine ⟨x, _, hexec, htaken, tryOpen_payload p.request s, ?_, hloader⟩
      have hsame : x.routes = (tryOpen p.request s).1.routes ∧ x.feeds = (tryOpen p.request s).1.feeds := by
        rw [hx]
        exact ⟨rfl, rfl⟩
      rw [hsame.1, hsame.2]
      exact hstate

end Sys2Proof.Machine
